-- ==== Sys2Proof/Word.lean ====
section
/-! DEFINITION. The word types of AMS-CORE: the 64-bit pattern of a binary64 value (10_state.md, "f64"), and the
32-bit command word (30_encoding.md R80). -/

namespace Sys2Proof

/-- A binary64 value, held as its 64-bit pattern: bit 63 the sign, bits 62..52 the exponent, bits 51..0 the
fraction (20_memory.md R64). -/
abbrev F64 := BitVec 64

/-- The command word CMD of a transaction (30_encoding.md R80). -/
abbrev CmdWord := BitVec 32

end Sys2Proof
end

