-- ==== Sys2Proof/Config.lean ====
section
/-! DEFINITION. What an implementation of AMS-CORE fixes (00_scope.md R6), and the values the spec leaves open: the
cosine and the bits of a NaN result. The parameters DERIVED from these stand in Machine/Params.lean. -/

namespace Sys2Proof

/-- The elaboration parameters that are free choices of an implementation (00_scope.md R6). They are fixed for the
life of an instance. -/
structure Config where
  /-- `N`, FILTER_ORDER: the Lagrange interpolation order. -/
  n : Nat
  /-- `MAX_DELAY_REQ`: the maximum delay the caller of the construction asks for. DESIGN CHOICE (log entry 1): R6 says
  only "integer" and leaves open whether it may be negative; the model takes it from 0. Every negative request would be
  floored to MAX_DELAY = 8192, the instance that 0 gives. -/
  maxDelayReq : Nat
  /-- `MAX_GAIN`: the bound of gain and brightness. -/
  maxGain : F64
  deriving DecidableEq, Repr

/-- The configuration of every vector of 95_test_vectors.md: N = 3, MAX_DELAY_REQ = 0, MAX_GAIN = 0.9999.
DESIGN CHOICE (log entry 1): R6 gives MAX_DELAY_REQ no default, and 0 is the value of vector X9. -/
def Config.standard : Config where
  n := 3
  maxDelayReq := 0
  maxGain := 0x3FEFFF2E48E8A71E#64

/-- `COS`, the cosine of the implementation, OPEN: total and deterministic, and nothing else is known of it
(00_scope.md R6, 93_implementation_defined.md I2; log entry 2). -/
opaque Config.cos : F64 → F64

/-- Names one rounding of one command: the number of the command and the place of the operation in it. Two
operations that are not the same operation of the same command have different seeds. -/
structure NanSeed where
  /-- The number of the command (State.freeSeq). -/
  seq : Nat
  /-- The place of the operation in the command, innermost first. -/
  path : List Nat
  deriving DecidableEq, Repr

/-- The seed of the part numbered `k` of a computation. -/
def NanSeed.site (ν : NanSeed) (k : Nat) : NanSeed :=
  { ν with path := k :: ν.path }

/-- The bits a NaN result takes its sign and payload from: a free value, different for every operation of every
command (00_scope.md R9, 93_implementation_defined.md I19; log entry 3). -/
opaque Config.freeNaN : NanSeed → BitVec 64

end Sys2Proof
end

