-- ==== Sys2Proof/Machine/Float.lean ====
section
/-! DEFINITION. IEEE 754 binary64 arithmetic, round to nearest, ties to even, each operation rounded by itself
(00_scope.md R9). Every finite value is a whole number of units 2^-1074, so an operation is computed exactly on
integers and narrowed once, in `roundMag`. The operations are irreducible, so that no unifier runs one by accident; the
kernel evaluates them all the same. PRESUMED where R9 says [from general knowledge] (log entry 12). -/

namespace Sys2Proof.F64

/-! ## Fields and classes -/

/-- Bits 62..0: exponent and fraction. -/
def mag (x : F64) : Nat := x.toNat % 2 ^ 63

/-- Bit 63. -/
def sign (x : F64) : Bool := decide (2 ^ 63 ≤ x.toNat)

/-- The magnitude bits of an infinity. -/
def infMag : Nat := 0x7FF0000000000000

/-- The pattern with the given sign and magnitude bits. -/
def pack (neg : Bool) (m : Nat) : F64 := BitVec.ofNat 64 (m + if neg then 2 ^ 63 else 0)

def isNaN (x : F64) : Bool := decide (infMag < mag x)
def isInf (x : F64) : Bool := decide (mag x = infMag)
def isFinite (x : F64) : Bool := decide (mag x < infMag)
def isZero (x : F64) : Bool := decide (mag x = 0)

def zero (neg : Bool) : F64 := pack neg 0
def inf (neg : Bool) : F64 := pack neg infMag

/-- `+0.0` -/
def pzero : F64 := 0x0000000000000000#64
/-- `1.0` -/
def one : F64 := 0x3FF0000000000000#64
/-- `2.0` -/
def two : F64 := 0x4000000000000000#64

/-- The NaN of the operation named by `ν`: any NaN (00_scope.md R9; log entry 3). A fraction of zero would be an
infinity, so it becomes 1. -/
def nan (ν : NanSeed) : F64 :=
  let b := Config.freeNaN ν
  let f := b.toNat % 2 ^ 52
  pack (sign b) (infMag + if f = 0 then 1 else f)

/-- `-x`: flips the sign bit and is exact (R9). -/
def neg (x : F64) : F64 := x ^^^ 0x8000000000000000#64

/-! ## Exact values -/

/-- The unit all finite values are multiples of is `2^-1074`; `1.0` is this many of them. -/
def unit : Nat := 2 ^ 1074

/-- The magnitude of the value with the magnitude bits `m`, in units of `2^-1074` (subnormals included). -/
def scaledMag (m : Nat) : Nat :=
  let e := m / 2 ^ 52
  let f := m % 2 ^ 52
  if e = 0 then f else (2 ^ 52 + f) * 2 ^ (e - 1)

def scaled (x : F64) : Nat := scaledMag (mag x)

/-- The exact value of a finite pattern, in units of `2^-1074`. -/
def value (x : F64) : Int := if sign x then -(scaled x : Int) else (scaled x : Int)

/-! ## Rounding -/

/-- The whole number nearest to `n / d`, ties to even. -/
def roundNat (n d : Nat) : Nat :=
  let q := n / d
  let r := n % d
  if 2 * r < d then q else if d < 2 * r then q + 1 else q + q % 2

/-- `fl`: the magnitude bits nearest to `n / d` units of `2^-1074`, ties to even, infinity on overflow. The unit in
the last place is `2^q` units; a rounding that carries runs into the exponent field by itself. -/
@[irreducible] def roundMag (n d : Nat) : Nat :=
  let q := Nat.log2 (n / d) - 52
  min infMag (q * 2 ^ 52 + roundNat n (d * 2 ^ q))

/-- The binary64 nearest to `± n / d` units of `2^-1074`; a zero result keeps the sign. -/
def ofRatio (neg : Bool) (n d : Nat) : F64 := pack neg (roundMag n d)

/-- `float(k)` (00_scope.md R10). -/
def ofInt (k : Int) : F64 := ofRatio (decide (k < 0)) (k.natAbs * unit) 1

/-- `float(k)` of an unsigned integer. -/
def ofNat (k : Nat) : F64 := ofInt (k : Int)

/-! ## Operations -/

/-- Sign of the result of a product or a quotient. -/
def xsign (a b : F64) : Bool := xor (sign a) (sign b)

/-- `fl(a + b)` -/
@[irreducible] def add (ν : NanSeed) (a b : F64) : F64 :=
  if isNaN a || isNaN b then nan ν
  else if isInf a then (if isInf b && sign a != sign b then nan ν else inf (sign a))
  else if isInf b then inf (sign b)
  else
    let v := value a + value b
    if v = 0 then zero (sign a && sign b) else ofRatio (decide (v < 0)) v.natAbs 1

/-- `fl(a - b)` -/
def sub (ν : NanSeed) (a b : F64) : F64 := add ν a (neg b)

/-- `fl(a * b)` -/
@[irreducible] def mul (ν : NanSeed) (a b : F64) : F64 :=
  if isNaN a || isNaN b then nan ν
  else if isInf a || isInf b then (if isZero a || isZero b then nan ν else inf (xsign a b))
  else ofRatio (xsign a b) (scaled a * scaled b) unit

/-- `fl(a / b)` -/
@[irreducible] def div (ν : NanSeed) (a b : F64) : F64 :=
  if isNaN a || isNaN b then nan ν
  else if isInf a then (if isInf b then nan ν else inf (xsign a b))
  else if isInf b then zero (xsign a b)
  else if isZero b then (if isZero a then nan ν else inf (xsign a b))
  else ofRatio (xsign a b) (scaled a * unit) (scaled b)

/-! ## Comparisons -/

/-- The place of a pattern that is no NaN in the order of the values: both zeros are 0. -/
def key (x : F64) : Int := if sign x then -(mag x : Int) else (mag x : Int)

/-- `a < b`, false when either is a NaN (R9). -/
def lt (a b : F64) : Bool := !isNaN a && !isNaN b && decide (key a < key b)

/-- `a <= b`, false when either is a NaN. -/
def le (a b : F64) : Bool := !isNaN a && !isNaN b && decide (key a ≤ key b)

/-! ## Integers -/

/-- The largest integer not above the value of `x`. Used on finite values only (log entry 13). -/
def floorInt (x : F64) : Int := value x / (unit : Int)

/-- `floor(x)` (00_scope.md R10): exact. A NaN or an infinity, which no rule gives it, comes back as it is. -/
def floor (x : F64) : F64 :=
  if isFinite x then (if floorInt x = 0 then zero (sign x) else ofInt (floorInt x)) else x

/-- `int(x)` (00_scope.md R10): the integer equal to an integer-valued `x`. -/
def toInt (x : F64) : Int := floorInt x

/-! ## Equality up to the open bits of a NaN -/

/-- The same value: one pattern, or two NaNs (R9: a model treats a NaN result as any NaN). -/
def same (a b : F64) : Bool := decide (a = b) || (isNaN a && isNaN b)

end Sys2Proof.F64
end

