-- ==== Sys2Proof/Machine/Params.lean ====
section
/-! DEFINITION. The parameters and constants an elaboration derives from Config (00_scope.md R6). -/

namespace Sys2Proof

/-- `H`, the fixed tap offset: `(N-1)/2`. -/
def Config.h (c : Config) : Nat := (c.n - 1) / 2

/-- `MIN_DELAY = max(3, H+2)` -/
def Config.minDelay (c : Config) : Nat := max 3 (c.h + 2)

/-- `MAX_DELAY = max(8192, MAX_DELAY_REQ)` -/
def Config.maxDelay (c : Config) : Nat := max 8192 c.maxDelayReq

/-- `L = MAX_DELAY + (N+1)/2`, the length of the delay buffer in words (10_state.md R21, 70 R234). -/
def Config.len (c : Config) : Nat := c.maxDelay + (c.n + 1) / 2

/-- `CW = ceil(log2(L))`, the width of the cursor register. -/
def Config.cw (c : Config) : Nat := Nat.log2 (c.len - 1) + 1

/-- `float(MIN_DELAY)` -/
def Config.minDelayF (c : Config) : F64 := F64.ofNat c.minDelay

/-- `float(MAX_DELAY)` -/
def Config.maxDelayF (c : Config) : F64 := F64.ofNat c.maxDelay

/-- `TWO_PI`, the binary64 nearest to 2π. -/
def Config.twoPi : F64 := 0x401921FB54442D18#64

/-- `DEFAULT_SR = 44100.0` -/
def Config.defaultSr : F64 := 0x40E5888000000000#64

/-- `DC_CUTOFF = 20.0` -/
def Config.dcCutoff : F64 := 0x4034000000000000#64

end Sys2Proof
end

