-- ==== Sys2Proof/Syntax.lean ====
section
/-! DEFINITION. What a host can say to AMS-CORE: the transaction of the command port (30_encoding.md R80), the
register names of GET (10_state.md R35), the ten commands (30 R83), the causes of a rejection (60 R202), and the
assembler's lines and pseudo-instructions (30 R89, R90). -/

namespace Sys2Proof

/-- One transaction as it stands on the command port (30_encoding.md R80). -/
structure Transaction where
  cmd : CmdWord
  opa : F64
  opb : F64
  opc : F64
  deriving DecidableEq, Repr

/-- The registers GET can name (10_state.md R35). `lc j` and `cc j` are the sixteen places of their two blocks of
selectors; which of them exist depends on N (30_encoding.md R86). -/
inductive Reg where
  | status | s | g | b | sr
  | ta0 | ta1 | da0 | da1 | db1
  | cursor | tx1 | tx2 | du1 | dy1 | dtS
  | lc (j : Fin 16)
  | cc (j : Fin 16)
  | cfgN | cfgH | cfgMinDelay | cfgMaxDelay | cfgL | cfgMaxGain
  deriving DecidableEq, Repr

/-- The ten commands, one constructor per row of opcode_table.json, with the lanes the command reads
(30_encoding.md R82). -/
inductive Instr where
  /-- `NOP` -/
  | nop
  /-- `SET.DELAY a` -/
  | setDelay (a : F64)
  /-- `SET.GAIN g` -/
  | setGain (g : F64)
  /-- `SET.BRIGHT b` -/
  | setBright (b : F64)
  /-- `SET.SR r` -/
  | setSr (r : F64)
  /-- `CLEAR` -/
  | clear
  /-- `STEP.A e` -/
  | stepA (e : F64)
  /-- `STEP.B e, d` -/
  | stepB (e d : F64)
  /-- `STEP.C e, g, d` -/
  | stepC (e g d : F64)
  /-- `GET name` -/
  | get (reg : Reg)
  deriving DecidableEq, Repr

/-- Why a command was rejected (60_exceptions.md R202), causes 1 to 5 in order. -/
inductive Cause where
  | reservedOpcode
  | reservedBits
  | selNotZero
  | badSelector
  | badSampleRate
  deriving DecidableEq, Repr

/-- One line of the assembler (30_encoding.md R89): a command, or a raw transaction. -/
inductive AsmLine where
  | cmd (i : Instr)
  /-- `.word c, a, b, x` -/
  | word (c : CmdWord) (a b x : F64)
  deriving DecidableEq, Repr

/-- The pseudo-instructions (30_encoding.md R90). The block length `n` is written out and the arrays follow. -/
inductive Pseudo where
  /-- `BLOCK.A n, e[]` -/
  | blockA (n : Nat) (e : List F64)
  /-- `BLOCK.B n, e[], d[]` -/
  | blockB (n : Nat) (e d : List F64)
  /-- `BLOCK.C n, e[], g[], d[]` -/
  | blockC (n : Nat) (e g d : List F64)
  /-- `PROCESS n, e[], [g[]], [d[]]` -/
  | process (n : Nat) (e : List F64) (g d : Option (List F64))
  /-- `CONFIG r, a, g, b` -/
  | config (r a g b : F64)
  deriving DecidableEq, Repr

end Sys2Proof
end

