-- ==== Sys2Proof/WellFormed.lean ====
section
/-! DEFINITION. Which configurations are an AMS-CORE (00_scope.md R7, 60 R213) and which commands exist in one
(30_encoding.md R86). -/

namespace Sys2Proof

/-- The configuration elaborates (00_scope.md R6, R7; 60_exceptions.md R213). The clauses of R7 about H, MIN_DELAY
and MAX_DELAY hold by the definitions of Machine/Params.lean. -/
def Config.valid (c : Config) : Bool :=
  decide (c.n % 2 = 1) && decide (1 ≤ c.n) && decide (c.n ≤ 15) && decide (c.maxDelay ≤ 2 ^ 24) &&
    F64.lt F64.pzero c.maxGain && F64.lt c.maxGain F64.one

/-- The register exists in this configuration: `LC_S[j]` and `CC[j]` for `j <= N` (10_state.md R35). -/
def Reg.assigned (c : Config) : Reg → Bool
  | .lc j => decide (j.val ≤ c.n)
  | .cc j => decide (j.val ≤ c.n)
  | _ => true

/-- The command exists in this configuration. Every operand lane may hold any pattern (30_encoding.md R88). -/
def Instr.wellFormed (c : Config) : Instr → Bool
  | .get reg => reg.assigned c
  | .nop | .setDelay _ | .setGain _ | .setBright _ | .setSr _ | .clear => true
  | .stepA _ | .stepB _ _ | .stepC _ _ _ => true

end Sys2Proof
end

