-- ==== Sys2Proof/Decode.lean ====
section
/-! DEFINITION. The decoder of 30_encoding.md R88, total on every transaction and rejecting by the cause's name; the
encoder; the rows of the opcode table; the assembler's lines and pseudo-instructions (R89, R90); and the byte order
of a byte-serial adapter (20_memory.md R64). -/

namespace Sys2Proof

/-! ## Fields of CMD (R81) -/

/-- `CMD[3:0]` -/
def cmdOp (c : CmdWord) : BitVec 4 := c.extractLsb' 0 4
/-- `CMD[11:4]` -/
def cmdSel (c : CmdWord) : BitVec 8 := c.extractLsb' 4 8
/-- `CMD[31:12]` -/
def cmdRsv (c : CmdWord) : BitVec 20 := c.extractLsb' 12 20

/-! ## The register selectors (10_state.md R35) -/

/-- The selector of a register. -/
def Reg.sel : Reg → BitVec 8
  | .status => 0x00#8
  | .s => 0x01#8
  | .g => 0x02#8
  | .b => 0x03#8
  | .sr => 0x04#8
  | .ta0 => 0x05#8
  | .ta1 => 0x06#8
  | .da0 => 0x07#8
  | .da1 => 0x08#8
  | .db1 => 0x09#8
  | .cursor => 0x0A#8
  | .tx1 => 0x0B#8
  | .tx2 => 0x0C#8
  | .du1 => 0x0D#8
  | .dy1 => 0x0E#8
  | .dtS => 0x0F#8
  | .lc j => BitVec.ofNat 8 (0x10 + j.val)
  | .cc j => BitVec.ofNat 8 (0x20 + j.val)
  | .cfgN => 0x30#8
  | .cfgH => 0x31#8
  | .cfgMinDelay => 0x32#8
  | .cfgMaxDelay => 0x33#8
  | .cfgL => 0x34#8
  | .cfgMaxGain => 0x35#8

/-- The register a selector below `0x10` names. -/
def Reg.ofSelLow : Nat → Option Reg
  | 0x0 => some .status
  | 0x1 => some .s
  | 0x2 => some .g
  | 0x3 => some .b
  | 0x4 => some .sr
  | 0x5 => some .ta0
  | 0x6 => some .ta1
  | 0x7 => some .da0
  | 0x8 => some .da1
  | 0x9 => some .db1
  | 0xA => some .cursor
  | 0xB => some .tx1
  | 0xC => some .tx2
  | 0xD => some .du1
  | 0xE => some .dy1
  | 0xF => some .dtS
  | _ => none

/-- The register a selector from `0x30` on names, by its distance from `0x30`. -/
def Reg.ofSelCfg : Nat → Option Reg
  | 0 => some .cfgN
  | 1 => some .cfgH
  | 2 => some .cfgMinDelay
  | 3 => some .cfgMaxDelay
  | 4 => some .cfgL
  | 5 => some .cfgMaxGain
  | _ => none

/-- The register a selector names, none where it is unassigned in configuration `c` (10_state.md R35). -/
def Reg.ofSel (c : Config) (sel : BitVec 8) : Option Reg :=
  let k := sel.toNat
  if k < 0x10 then Reg.ofSelLow k
  else if k < 0x20 then (if k - 0x10 ≤ c.n then some (.lc (Fin.ofNat 16 (k - 0x10))) else none)
  else if k < 0x30 then (if k - 0x20 ≤ c.n then some (.cc (Fin.ofNat 16 (k - 0x20))) else none)
  else Reg.ofSelCfg (k - 0x30)

/-! ## The decoder (R88) -/

/-- Dispatch of a command whose word passed the first three checks of R88; an unassigned selector is cause 4. -/
def decodeOp (c : Config) (t : Transaction) : Except Cause Instr :=
  match (cmdOp t.cmd).toNat with
  | 0x0 => .ok .nop
  | 0x1 => .ok (.setDelay t.opa)
  | 0x2 => .ok (.setGain t.opa)
  | 0x3 => .ok (.setBright t.opa)
  | 0x4 => .ok (.setSr t.opa)
  | 0x5 => .ok .clear
  | 0x6 => .ok (.stepA t.opa)
  | 0x7 => .ok (.stepB t.opa t.opc)
  | 0x8 => .ok (.stepC t.opa t.opb t.opc)
  | 0x9 =>
    match Reg.ofSel c (cmdSel t.cmd) with
    | some reg => .ok (.get reg)
    | none => .error .badSelector
  | _ => .error .reservedOpcode

/-- `decode(CMD)` of R88: the checks in the spec's order, the first that fails decides the cause. -/
def decode (c : Config) (t : Transaction) : Except Cause Instr :=
  if 0xA ≤ (cmdOp t.cmd).toNat then .error .reservedOpcode
  else if cmdRsv t.cmd ≠ 0#20 then .error .reservedBits
  else if cmdOp t.cmd ≠ 0x9#4 ∧ cmdSel t.cmd ≠ 0#8 then .error .selNotZero
  else decodeOp c t

/-! ## The encoder (R82, R83, R89) -/

/-- The opcode of a command (R83). -/
def Instr.op : Instr → BitVec 4
  | .nop => 0x0#4
  | .setDelay _ => 0x1#4
  | .setGain _ => 0x2#4
  | .setBright _ => 0x3#4
  | .setSr _ => 0x4#4
  | .clear => 0x5#4
  | .stepA _ => 0x6#4
  | .stepB _ _ => 0x7#4
  | .stepC _ _ _ => 0x8#4
  | .get _ => 0x9#4

/-- The SEL field of a command: zero for all but GET (R81). -/
def Instr.selField : Instr → BitVec 8
  | .get reg => reg.sel
  | .nop | .setDelay _ | .setGain _ | .setBright _ | .setSr _ | .clear => 0#8
  | .stepA _ | .stepB _ _ | .stepC _ _ _ => 0#8

/-- `CMD = {20'b0, SEL, OP}` (R81, R83). -/
def Instr.cmdWord (i : Instr) : CmdWord := 0#20 ++ i.selField ++ i.op

/-- The transaction of a command; a lane the command does not read is zero (R82, R89). -/
def encode (i : Instr) : Transaction :=
  match i with
  | .nop => ⟨i.cmdWord, 0, 0, 0⟩
  | .setDelay a => ⟨i.cmdWord, a, 0, 0⟩
  | .setGain g => ⟨i.cmdWord, g, 0, 0⟩
  | .setBright b => ⟨i.cmdWord, b, 0, 0⟩
  | .setSr r => ⟨i.cmdWord, r, 0, 0⟩
  | .clear => ⟨i.cmdWord, 0, 0, 0⟩
  | .stepA e => ⟨i.cmdWord, e, 0, 0⟩
  | .stepB e d => ⟨i.cmdWord, e, 0, d⟩
  | .stepC e g d => ⟨i.cmdWord, e, g, d⟩
  | .get _ => ⟨i.cmdWord, 0, 0, 0⟩

/-! ## The opcode table (R83, opcode_table.json) -/

/-- One row: a command word `w` is of this row when `w AND mask = pattern`. -/
structure OpRow where
  mnemonic : String
  pattern : CmdWord
  mask : CmdWord
  deriving DecidableEq, Repr

def OpRow.accepts (r : OpRow) (w : CmdWord) : Bool := decide (w &&& r.mask = r.pattern)

/-- The ten rows of the table. -/
def opTable : List OpRow := [
  ⟨"NOP", 0x00000000#32, 0xFFFFFFFF#32⟩,
  ⟨"SET_DELAY", 0x00000001#32, 0xFFFFFFFF#32⟩,
  ⟨"SET_GAIN", 0x00000002#32, 0xFFFFFFFF#32⟩,
  ⟨"SET_BRIGHT", 0x00000003#32, 0xFFFFFFFF#32⟩,
  ⟨"SET_SR", 0x00000004#32, 0xFFFFFFFF#32⟩,
  ⟨"CLEAR", 0x00000005#32, 0xFFFFFFFF#32⟩,
  ⟨"STEP_A", 0x00000006#32, 0xFFFFFFFF#32⟩,
  ⟨"STEP_B", 0x00000007#32, 0xFFFFFFFF#32⟩,
  ⟨"STEP_C", 0x00000008#32, 0xFFFFFFFF#32⟩,
  ⟨"GET", 0x00000009#32, 0xFFFFF00F#32⟩]

/-- The row's name of a command. -/
def Instr.mnemonic : Instr → String
  | .nop => "NOP"
  | .setDelay _ => "SET_DELAY"
  | .setGain _ => "SET_GAIN"
  | .setBright _ => "SET_BRIGHT"
  | .setSr _ => "SET_SR"
  | .clear => "CLEAR"
  | .stepA _ => "STEP_A"
  | .stepB _ _ => "STEP_B"
  | .stepC _ _ _ => "STEP_C"
  | .get _ => "GET"

/-! ## A transaction as one number -/

/-- The transaction whose bits are `w`, bit 0 the least significant bit of CMD, then OPA, OPB, OPC (log entry 18). -/
def Transaction.ofNat (w : Nat) : Transaction where
  cmd := BitVec.ofNat 32 w
  opa := BitVec.ofNat 64 (w / 2 ^ 32)
  opb := BitVec.ofNat 64 (w / 2 ^ 96)
  opc := BitVec.ofNat 64 (w / 2 ^ 160)

/-- The transaction of a table row's `nbits` bits `w`; every bit above them is zero. -/
def Transaction.ofTableWord (nbits w : Nat) : Transaction := Transaction.ofNat (w % 2 ^ nbits)

/-- The command the decoder reads from a table row's word, in the standard configuration; none where it rejects. -/
def decodeTableWord (nbits w : Nat) : Option Instr :=
  match decode Config.standard (Transaction.ofTableWord nbits w) with
  | .ok i => some i
  | .error _ => none

/-! ## The assembler (R89, R90) -/

/-- The transaction of one assembler line (R89). -/
def AsmLine.assemble : AsmLine → Transaction
  | .cmd i => encode i
  | .word c a b x => ⟨c, a, b, x⟩

/-- The first `n` elements, none where there are fewer. -/
def takeExactly (n : Nat) (l : List F64) : Option (List F64) :=
  if n ≤ l.length then some (l.take n) else none

/-- `STEP.A e[0] … STEP.A e[n-1]` -/
def expandA (n : Nat) (e : List F64) : Option (List Instr) := do
  let e ← takeExactly n e
  pure (e.map .stepA)

/-- `STEP.B e[i], d[i]` for `i = 0 .. n-1` -/
def expandB (n : Nat) (e d : List F64) : Option (List Instr) := do
  let e ← takeExactly n e
  let d ← takeExactly n d
  pure (List.zipWith .stepB e d)

/-- `STEP.C e[i], g[i], d[i]` for `i = 0 .. n-1` -/
def expandC (n : Nat) (e g d : List F64) : Option (List Instr) := do
  let e ← takeExactly n e
  let g ← takeExactly n g
  let d ← takeExactly n d
  pure (List.zipWith (fun eg dd => .stepC eg.1 eg.2 dd) (e.zip g) d)

/-- The commands a pseudo-instruction stands for (R90); none where the assembler refuses it: a gain array without a
delay array, or an array shorter than the block (log entry 19). -/
def Pseudo.expand : Pseudo → Option (List Instr)
  | .blockA n e => expandA n e
  | .blockB n e d => expandB n e d
  | .blockC n e g d => expandC n e g d
  | .process n e none none => expandA n e
  | .process n e none (some d) => expandB n e d
  | .process n e (some g) (some d) => expandC n e g d
  | .process _ _ (some _) none => none
  | .config r a g b => some [.setSr r, .setDelay a, .setGain g, .setBright b]

/-! ## Byte-serial adapters (20_memory.md R64) -/

/-- The low `k` bytes of `w`, least significant byte first. -/
def bytesLE : Nat → Nat → List (BitVec 8)
  | 0, _ => []
  | k + 1, w => BitVec.ofNat 8 w :: bytesLE k (w / 256)

/-- The number whose bytes these are, least significant byte first. -/
def ofBytesLE : List (BitVec 8) → Nat
  | [] => 0
  | b :: bs => b.toNat + 256 * ofBytesLE bs

/-- A 64-bit word as a byte-wide bus carries it (R64). -/
def adapterBytes (w : F64) : List (BitVec 8) := bytesLE 8 w.toNat

/-- The 64-bit word a byte-wide bus carried (R64). -/
def adapterWord (bs : List (BitVec 8)) : F64 := BitVec.ofNat 64 (ofBytesLE bs)

end Sys2Proof
end

