-- ==== Sys2Proof/Machine/Coef.lean ====
section
/-! DEFINITION. The coefficient-recomputation pipeline of 40_datapath.md: the split of a delay (R100), the static and
dynamic Lagrange weights and the constant-factor cache (R102 to R104), the tone coefficients with the stability clamp
(R107, R108) and the DC-blocker coefficients (R112). Pure functions; a seed names each rounding. -/

namespace Sys2Proof

/-! ## Lagrange interpolator -/

/-- The result of `split`: the offset of tap 0 and the evaluation point. -/
structure Split where
  dt : Nat
  p : F64
  deriving DecidableEq, Repr

/-- `split(s)` (R100). `dt` is unsigned; it is at least 1 for every stored delay (20_memory.md R66, log entry 13). -/
def split (ν : NanSeed) (c : Config) (s : F64) : Split :=
  let f := F64.floor s
  let d := F64.sub (ν.site 0) s f
  { dt := (F64.toInt f).toNat - c.h
    p := F64.add (ν.site 1) d (F64.ofNat c.h) }

/-- `m in 0..N, m != j`, ascending (00_scope.md R12). -/
def nodesBut (n j : Nat) : List Nat := (List.range (n + 1)).filter (fun m => m != j)

/-- One weight of R102: the product over `m` of `(P - m) / (j - m)`. -/
def staticWeight (ν : NanSeed) (n : Nat) (p : F64) (j : Nat) : F64 :=
  (nodesBut n j).foldl
    (fun w m =>
      let μ := ν.site m
      let q := F64.div (μ.site 1) (F64.sub (μ.site 0) p (F64.ofNat m)) (F64.ofInt ((j : Int) - (m : Int)))
      F64.mul (μ.site 2) w q)
    F64.one

/-- `staticWeights(P)` (R102) -/
def staticWeights (ν : NanSeed) (n : Nat) (p : F64) : List F64 :=
  (List.range (n + 1)).map (fun j => staticWeight (ν.site j) n p j)

/-- One constant of R103: the product over `m` of `1 / (j - m)`. -/
def ccAt (ν : NanSeed) (n j : Nat) : F64 :=
  (nodesBut n j).foldl
    (fun w m =>
      let μ := ν.site m
      F64.mul (μ.site 1) w (F64.div (μ.site 0) F64.one (F64.ofInt ((j : Int) - (m : Int)))))
    F64.one

/-- `ccInit()` (R103) -/
def ccInit (ν : NanSeed) (n : Nat) : List F64 := (List.range (n + 1)).map (fun j => ccAt (ν.site j) n j)

/-- `dminusk[m] = fl(P - float(m))` (R104), computed once per sample and used by every weight. -/
def dminusk (ν : NanSeed) (p : F64) (m : Nat) : F64 := F64.sub (ν.site m) p (F64.ofNat m)

/-- One weight of R104: `CC[j]` times the `dminusk[m]`, `m != j`. -/
def dynamicWeight (νd ν : NanSeed) (n : Nat) (p ccj : F64) (j : Nat) : F64 :=
  (nodesBut n j).foldl (fun w m => F64.mul (ν.site m) w (dminusk νd p m)) ccj

/-- `dynamicWeights(P)` (R104), reading the cache `cc`. -/
def dynamicWeights (ν : NanSeed) (n : Nat) (cc : List F64) (p : F64) : List F64 :=
  (List.range (n + 1)).map
    (fun j => dynamicWeight (ν.site 0) ((ν.site 1).site j) n p (cc.getD j F64.pzero) j)

/-! ## Tone filter -/

/-- `clampTone` (R108): an `a0` below zero becomes the flat gain `g`; `-0.0` is not below zero. -/
def clampTone (a0 a1 g : F64) : F64 × F64 :=
  if F64.lt a0 F64.pzero then (F64.pzero, g) else (a0, a1)

/-- `omega0 = 2π / (s + 1)` (R107) -/
def omega0 (ν : NanSeed) (s : F64) : F64 := F64.div (ν.site 1) Config.twoPi (F64.add (ν.site 0) s F64.one)

/-- The unclamped `(a0, a1)` of R107 from the cosine `c`. -/
def toneRaw (ν : NanSeed) (c g b : F64) : F64 × F64 :=
  let bg := F64.mul (ν.site 0) b g
  let a1 := F64.div (ν.site 4) (F64.add (ν.site 2) g (F64.mul (ν.site 1) bg c)) (F64.add (ν.site 3) F64.one c)
  let a0 := F64.div (ν.site 6) (F64.sub (ν.site 5) a1 bg) F64.two
  (a0, a1)

/-- The `(a0, a1)` of R107 and R108 from the cosine `c`. -/
def toneFrom (ν : NanSeed) (c g b : F64) : F64 × F64 :=
  clampTone (toneRaw ν c g b).1 (toneRaw ν c g b).2 g

/-- `toneCoef(g, b, s)` (R107) -/
def toneCoef (ν : NanSeed) (g b s : F64) : F64 × F64 :=
  toneFrom (ν.site 1) (Config.cos (omega0 (ν.site 0) s)) g b

/-! ## DC blocker -/

/-- The three coefficients of the DC blocker. -/
structure DcCoef where
  a0 : F64
  a1 : F64
  b1 : F64
  deriving DecidableEq, Repr

/-- `dcCoef(sr)` (R112) -/
def dcCoef (ν : NanSeed) (sr : F64) : DcCoef :=
  let hc := F64.div (ν.site 1) (F64.mul (ν.site 0) Config.twoPi Config.dcCutoff) sr
  let hh := F64.div (ν.site 2) hc F64.two
  let a0 := F64.div (ν.site 4) F64.one (F64.add (ν.site 3) F64.one hh)
  { a0 := a0
    a1 := F64.neg a0
    b1 := F64.mul (ν.site 6) a0 (F64.sub (ν.site 5) F64.one hh) }

end Sys2Proof
end

