-- ==== Sys2Proof/Machine/Flags.lean ====
section
/-! DEFINITION. The fields of the STATUS word (10_state.md R33, R34; 60_exceptions.md R202). -/

namespace Sys2Proof.Machine

/-- The lifecycle state (R33). -/
inductive Phase where
  /-- 0, before the first reset: never held after one (70 R233). -/
  | uninitialized
  /-- 1, after reset. -/
  | configured
  /-- 2, after an accepted STEP. -/
  | running
  /-- 3, after an accepted CLEAR. -/
  | cleared
  deriving DecidableEq, Repr

/-- The encoding of PHASE (R33). -/
def phaseCode : Phase → BitVec 2
  | .uninitialized => 0#2
  | .configured => 1#2
  | .running => 2#2
  | .cleared => 3#2

/-- The code of a cause in ECAUSE, 0 for none (60 R202). -/
def causeCode : Option Cause → BitVec 4
  | none => 0#4
  | some .reservedOpcode => 1#4
  | some .reservedBits => 2#4
  | some .selNotZero => 3#4
  | some .badSelector => 4#4
  | some .badSampleRate => 5#4

/-- The STATUS word (R34): ERR in bit 0, ECAUSE in bits 7..4, PHASE in bits 9..8, every other bit 0. -/
def statusWord (err : Bool) (ecause : Option Cause) (phase : Phase) : BitVec 32 :=
  0#22 ++ phaseCode phase ++ causeCode ecause ++ 0#3 ++ BitVec.ofBool err

end Sys2Proof.Machine
end

