-- ==== Sys2Proof/Machine/Operands.lean ====
section
/-! DEFINITION. How a command takes an operand lane: the clamping primitive of 00_scope.md R11, the three parameter
clamps of 40_datapath.md R117, and the operand check of SET_SR (42_control.md R164). Every other lane is used as it
is (30_encoding.md R82). -/

namespace Sys2Proof

/-- `clampP` (00_scope.md R11): a NaN takes the default, a value out of range the bound itself. -/
def clampP (v lo hi dflt : F64) : F64 :=
  let v := if F64.isNaN v then dflt else v
  if F64.lt v lo then lo else if F64.lt hi v then hi else v

/-- The delay argument clamped to `[MIN_DELAY, MAX_DELAY]`, before the compensation. -/
def clampDelay (c : Config) (v : F64) : F64 := clampP v c.minDelayF c.maxDelayF c.minDelayF

/-- `delayArg` (R117): clamp, minus 1. -/
def delayArg (ν : NanSeed) (c : Config) (v : F64) : F64 := F64.sub ν (clampDelay c v) F64.one

/-- `gainArg` (R117) -/
def gainArg (c : Config) (v : F64) : F64 := clampP v (F64.neg c.maxGain) c.maxGain F64.pzero

/-- `brightArg` (R117) -/
def brightArg (c : Config) (v : F64) : F64 := clampP v F64.pzero c.maxGain F64.pzero

/-- SET_SR rejects a sample rate that is NaN, infinite or below 1.0 (R164, cause 5). -/
def badSampleRate (r : F64) : Bool := F64.isNaN r || !F64.isFinite r || F64.lt r F64.one

end Sys2Proof
end

