-- ==== Sys2Proof/Machine/State.lean ====
section
/-! DEFINITION. The state of one AMS-CORE instance (10_state.md R20), its ports, and the state after reset (10_state.md
R41, 70_reset_and_hazards.md R231). Register names are the spec's. -/

namespace Sys2Proof.Machine

/-- The delay buffer: (index, word) pairs, indices strictly rising, no word that is `+0.0`; an index that is not
listed holds `+0.0`, the spec's reset contents (10_state.md R21; log entry 7). -/
abbrev Memory := List (Nat × F64)

/-- The response of a command (30_encoding.md R87). -/
structure Response where
  /-- `RERR`: the command was rejected. -/
  rerr : Bool
  /-- `RDATA` -/
  rdata : F64
  deriving DecidableEq, Repr

/-- What the host does to the core (30 R80; 70 R230). -/
inductive Input where
  /-- A transaction on the command port. -/
  | command (t : Transaction)
  /-- Reset asserted; a command in flight, if any, is abandoned (93 I23). -/
  | reset (inFlight : Option Transaction)
  deriving DecidableEq, Repr

/-- Why the machine stops. The core itself never faults: a rejection is a response (60 R201). -/
inductive Fault where
  /-- A write to a word that does not exist: `CURSOR` outside `0..L-1`. Raised by STEP_A, STEP_B and STEP_C in a state
  that no run reaches (10_state.md R22, R40). Safe (log entry 8). -/
  | bufIndex (i : Nat)
  deriving DecidableEq, Repr

/-- Why a step has no meaning. -/
inductive Refusal where
  /-- The instruction has no meaning in this model yet. Raised by no arm of `exec`. Safe. -/
  | notModelled (mnemonic : String)
  /-- A command before the first reset, which has no defined effect (70 R233). Raised by `step`. Safe
  (log entry 9). -/
  | beforeFirstReset
  /-- The configuration does not elaborate, so there is no core (60 R213). Raised by `step` and `elaborate`. Safe
  (log entry 10). -/
  | notElaborated
  deriving DecidableEq, Repr

/-- The state record of R20, with the configuration and the ports. -/
structure State where
  /-- The elaboration parameters of this instance; no step changes them (R36; log entry 1). -/
  cfg : Config
  /-- Delay-line buffer (R21). -/
  BUF : Memory
  /-- Write cursor (R22). -/
  CURSOR : Nat
  /-- `delayTimeSamples`, stored (R23). -/
  S : F64
  /-- `feedbackGain` (R24). -/
  G : F64
  /-- `brightness` (R25). -/
  B : F64
  /-- Sample rate (R26). -/
  SR : F64
  /-- Static tap-0 offset (R27). -/
  DT_S : Nat
  /-- Static Lagrange weights (R27). -/
  LC_S : List F64
  /-- Constant-factor cache (R28). -/
  CC : List F64
  /-- Static tone coefficients (R29). -/
  TA0 : F64
  TA1 : F64
  /-- Tone-filter input history (R30). -/
  TX1 : F64
  TX2 : F64
  /-- DC-blocker coefficients (R31). -/
  DA0 : F64
  DA1 : F64
  DB1 : F64
  /-- DC-blocker history: previous input, previous output (R32). -/
  DU1 : F64
  DY1 : F64
  /-- Lifecycle state (R33). -/
  PHASE : Phase
  /-- Sticky rejected-command flag (R34). -/
  ERR : Bool
  /-- Cause of the last rejection, none since reset (R34). -/
  ECAUSE : Option Cause
  /-- The host's inputs not yet accepted, oldest first (log entry 4). -/
  inbox : List Input
  /-- The response of the last command since reset (30 R87; log entry 5). -/
  resp : Option Response
  /-- Number of the current command, which picks the free NaN bits (log entry 3). -/
  freeSeq : Nat
  deriving DecidableEq, Repr

/-- The seed of the roundings of the current command. -/
def State.seed (s : State) : NanSeed := ⟨s.freeSeq, []⟩

/-- The reset procedure of 70 R231 for configuration `c`; `seq` numbers the reset among the commands. -/
def State.resetOf (c : Config) (seq : Nat) : State :=
  let ν : NanSeed := ⟨seq, []⟩
  let s := F64.sub (ν.site 0) c.minDelayF F64.one
  let sp := split (ν.site 1) c s
  let tone := toneCoef (ν.site 3) F64.pzero F64.pzero s
  let dc := dcCoef (ν.site 4) Config.defaultSr
  { cfg := c
    BUF := []
    CURSOR := 0
    S := s
    G := F64.pzero
    B := F64.pzero
    SR := Config.defaultSr
    DT_S := sp.dt
    LC_S := staticWeights (ν.site 2) c.n sp.p
    CC := ccInit (ν.site 5) c.n
    TA0 := tone.1
    TA1 := tone.2
    TX1 := F64.pzero
    TX2 := F64.pzero
    DA0 := dc.a0
    DA1 := dc.a1
    DB1 := dc.b1
    DU1 := F64.pzero
    DY1 := F64.pzero
    PHASE := .configured
    ERR := false
    ECAUSE := none
    inbox := []
    resp := none
    freeSeq := seq }

/-- The machine right after reset, in the standard configuration. -/
def State.reset : State := State.resetOf Config.standard 0

end Sys2Proof.Machine
end

