-- ==== Sys2Proof/Machine/Ops.lean ====
section
/-! DEFINITION. The named operations the commands share: the delay buffer (20_memory.md R61 to R63), responses and
rejection (30 R87, 60 R201), the setters' register updates, the datapath steps that touch state (40 R105, R111, R113,
R114), the value of a register (10 R35), and what a step takes from the host's inputs. -/

namespace Sys2Proof.Machine

/-- What a meaning answers. -/
abbrev Result := Host.Outcome State Fault Refusal

/-! ## The delay buffer -/

/-- The canonical form: indices strictly rising, no listed word is `+0.0`. -/
abbrev Memory.wf (m : Memory) : Prop :=
  m.Pairwise (fun a b => a.1 < b.1) ∧ ∀ c ∈ m, c.2 ≠ F64.pzero

/-- `BUF[i]` (R61): an index that is not listed holds `+0.0`. -/
def Memory.read : Memory → Nat → F64
  | [], _ => F64.pzero
  | (k, v) :: rest, i => if k = i then v else Memory.read rest i

/-- The pair `(i, v)` in front of `m`, unless `v` is what an unlisted index reads as. -/
def Memory.cons (i : Nat) (v : F64) (m : Memory) : Memory := if v = F64.pzero then m else (i, v) :: m

/-- `BUF[i] <- v` (R61), keeping the canonical form. -/
def Memory.write : Memory → Nat → F64 → Memory
  | [], i, v => Memory.cons i v []
  | (k, w) :: rest, i, v =>
    if i < k then Memory.cons i v ((k, w) :: rest)
    else if i = k then Memory.cons i v rest
    else (k, w) :: Memory.write rest i v

/-- `(CURSOR - o) mod L`, the mathematical modulo (R62). -/
def tapIndex (cursor o len : Nat) : Nat := (((cursor : Int) - (o : Int)) % (len : Int)).toNat

/-- `readAt(o)` (R62). -/
def readAt (s : State) (o : Nat) : F64 := s.BUF.read (tapIndex s.CURSOR o s.cfg.len)

/-- The word written at the cursor, and the cursor advanced, by `write(v)` (R63). -/
def pushSample (v : F64) (s : State) : State :=
  { s with BUF := s.BUF.write s.CURSOR v, CURSOR := (s.CURSOR + 1) % s.cfg.len }

/-! ## Responses and rejection -/

/-- `respond(err, data)` (30 R87). -/
def respond (err : Bool) (data : F64) (s : State) : State := { s with resp := some ⟨err, data⟩ }

/-- An accepted command that answers no data. -/
def done (s : State) : Result := .next (respond false 0#64 s)

/-- `Reject(cause)` (60 R201): the core's one failure, taken by every rejected command. There is no return from it
(60 R205). -/
def reject (c : Cause) (s : State) : State :=
  respond true 0#64 { s with ERR := true, ECAUSE := some c }

/-! ## Register updates of the setters (42 R161 to R165) -/

/-- `(TA0, TA1) <- t` -/
def setTone (t : F64 × F64) (s : State) : State := { s with TA0 := t.1, TA1 := t.2 }

/-- `(TA0, TA1) <- toneCoef(G, B, S)`, the recomputation every parameter setter ends with. -/
def retune (ν : NanSeed) (s : State) : State := setTone (toneCoef ν s.G s.B s.S) s

/-- `S`, `DT_S` and `LC_S` of SET_DELAY (R161). -/
def storeDelay (sd : F64) (dt : Nat) (w : List F64) (s : State) : State :=
  { s with S := sd, DT_S := dt, LC_S := w }

def storeGain (g : F64) (s : State) : State := { s with G := g }

def storeBright (b : F64) (s : State) : State := { s with B := b }

/-- `SR` and the DC-blocker coefficients of SET_SR (R164). -/
def storeRate (r : F64) (dc : DcCoef) (s : State) : State :=
  { s with SR := r, DA0 := dc.a0, DA1 := dc.a1, DB1 := dc.b1 }

/-- CLEAR (R165): buffer, cursor and history to zero. -/
def clearAudio (s : State) : State :=
  { s with
    BUF := [], CURSOR := 0, TX1 := F64.pzero, TX2 := F64.pzero, DU1 := F64.pzero, DY1 := F64.pzero }

def setPhase (p : Phase) (s : State) : State := { s with PHASE := p }

/-! ## The per-sample step (40 R105, R111, R113, R114) -/

/-- The sum of R105 from tap `j` on, `acc` so far. -/
def interpFrom (ν : NanSeed) (tap : Nat → F64) (acc : F64) (j : Nat) : List F64 → F64
  | [] => acc
  | w :: ws =>
    let μ := ν.site j
    interpFrom ν tap (F64.add (μ.site 1) acc (F64.mul (μ.site 0) w (tap j))) (j + 1) ws

/-- `interp(dt, w)` (R105): starts from the first product, adds the taps in ascending order. There are `N+1` weights,
at least two (log entry 11). -/
def interp (ν : NanSeed) (s : State) (dt : Nat) (w : List F64) : F64 :=
  match w with
  | [] => F64.pzero
  | w0 :: ws =>
    interpFrom ν (fun j => readAt s (dt + j)) (F64.mul ((ν.site 0).site 0) w0 (readAt s (dt + 0))) 1 ws

/-- The output of the tone filter (R111). -/
def toneOut (ν : NanSeed) (x a0 a1 : F64) (s : State) : F64 :=
  F64.add (ν.site 4)
    (F64.add (ν.site 2) (F64.mul (ν.site 0) a0 x) (F64.mul (ν.site 1) a1 s.TX1))
    (F64.mul (ν.site 3) a0 s.TX2)

/-- The history update of `toneApply` (R111). -/
def toneShift (x : F64) (s : State) : State := { s with TX2 := s.TX1, TX1 := x }

/-- The output of the DC blocker (R113). -/
def dcOut (ν : NanSeed) (u : F64) (s : State) : F64 :=
  F64.add (ν.site 4)
    (F64.add (ν.site 2) (F64.mul (ν.site 0) s.DA0 u) (F64.mul (ν.site 1) s.DA1 s.DU1))
    (F64.mul (ν.site 3) s.DB1 s.DY1)

/-- The history update of `dcApply` (R113). -/
def dcShift (u y : F64) (s : State) : State := { s with DU1 := u, DY1 := y }

/-- The interpolated read, the sum and the output sample of one STEP: `x`, `u`, `y` of R114. -/
structure Sample where
  x : F64
  u : F64
  y : F64
  deriving DecidableEq, Repr

/-- The values of R114, all read from the state before the command. -/
def sampleOf (ν : NanSeed) (e : F64) (w : List F64) (dt : Nat) (a : F64 × F64) (s : State) : Sample :=
  let x := interp (ν.site 0) s dt w
  let t := toneOut (ν.site 1) x a.1 a.2 s
  let u := F64.add (ν.site 2) t e
  { x := x, u := u, y := dcOut (ν.site 3) u s }

/-- The writes of R114 in their order. -/
def storeSample (v : Sample) (s : State) : State :=
  setPhase .running (pushSample v.y (dcShift v.u v.y (toneShift v.x s)))

/-- `oneSample` (R114) and the answer of a STEP. A cursor outside the buffer names no word to write (log entry 8). -/
def oneSample (ν : NanSeed) (e : F64) (w : List F64) (dt : Nat) (a : F64 × F64) (s : State) : Result :=
  if s.CURSOR < s.cfg.len then
    let v := sampleOf ν e w dt a s
    .next (respond false v.y (storeSample v s))
  else .fault (.bufIndex s.CURSOR)

/-! ## The value of a register (10 R35, R36) -/

/-- `zext_64` of an unsigned integer register. -/
def zext64 (k : Nat) : F64 := BitVec.ofNat 64 k

/-- `regValue(SEL)` (R166): none where the register does not exist. -/
def regValue (s : State) : Reg → Option F64
  | .status => some ((statusWord s.ERR s.ECAUSE s.PHASE).setWidth 64)
  | .s => some s.S
  | .g => some s.G
  | .b => some s.B
  | .sr => some s.SR
  | .ta0 => some s.TA0
  | .ta1 => some s.TA1
  | .da0 => some s.DA0
  | .da1 => some s.DA1
  | .db1 => some s.DB1
  | .cursor => some (zext64 s.CURSOR)
  | .tx1 => some s.TX1
  | .tx2 => some s.TX2
  | .du1 => some s.DU1
  | .dy1 => some s.DY1
  | .dtS => some (zext64 s.DT_S)
  | .lc j => if j.val ≤ s.cfg.n then some (s.LC_S.getD j.val F64.pzero) else none
  | .cc j => if j.val ≤ s.cfg.n then some (s.CC.getD j.val F64.pzero) else none
  | .cfgN => some (zext64 s.cfg.n)
  | .cfgH => some (zext64 s.cfg.h)
  | .cfgMinDelay => some (zext64 s.cfg.minDelay)
  | .cfgMaxDelay => some (zext64 s.cfg.maxDelay)
  | .cfgL => some (zext64 s.cfg.len)
  | .cfgMaxGain => some s.cfg.maxGain

/-! ## Inputs -/

/-- A transaction is accepted: it leaves the host's list, and its roundings get a number of their own. -/
def accept (rest : List Input) (s : State) : State := { s with inbox := rest, freeSeq := s.freeSeq + 1 }

/-- Reset (70 R230, R231) with the host's later inputs still to come: every register at its reset value, no
response. -/
def takeReset (rest : List Input) (s : State) : State :=
  { State.resetOf s.cfg (s.freeSeq + 1) with inbox := rest }

/-- What the next input asks of the core. -/
inductive Fetched where
  /-- Nothing is pending, or the input is done: this is the next state. -/
  | settled (s : State)
  /-- A command to run on this state. -/
  | run (i : Instr) (s : State)
  /-- No meaning. -/
  | refuse (r : Refusal)
  deriving DecidableEq, Repr

/-- The next input, taken and decoded (30 R88, 60 R212, 70 R230, R233). -/
def fetch (s : State) : Fetched :=
  if s.cfg.valid then
    match s.inbox with
    | [] => .settled s
    | .reset _ :: rest => .settled (takeReset rest s)
    | .command t :: rest =>
      if s.PHASE = .uninitialized then .refuse .beforeFirstReset
      else
        match decode s.cfg t with
        | .ok i => .run i (accept rest s)
        | .error c => .settled (reject c (accept rest s))
  else .refuse .notElaborated

/-- Elaboration and first reset of an instance (70 R230; 60 R213): a configuration that is no AMS-CORE is refused. -/
def elaborate (c : Config) : Result :=
  if c.valid then .next (State.resetOf c 0) else .refused .notElaborated

/-- The transaction of a table row's word becomes the next input of the host. -/
def offerWord (nbits w : Nat) (s : State) : State :=
  { s with inbox := .command (Transaction.ofTableWord nbits w) :: s.inbox }

end Sys2Proof.Machine
end

