-- ==== Sys2Proof/Machine/Control.lean ====
section
/-! DEFINITION. The configuration and control commands (42_control.md R160 to R166). -/

namespace Sys2Proof.Machine

/-- NOP (R160) -/
def execNop (s : State) : Result := done s

/-- SET_DELAY (R161) -/
def execSetDelay (a : F64) (s : State) : Result :=
  let ν := s.seed
  let sd := delayArg (ν.site 1) s.cfg a
  let sp := split (ν.site 2) s.cfg sd
  let w := staticWeights (ν.site 3) s.cfg.n sp.p
  done (retune (ν.site 4) (storeDelay sd sp.dt w s))

/-- SET_GAIN (R162) -/
def execSetGain (g : F64) (s : State) : Result :=
  done (retune (s.seed.site 4) (storeGain (gainArg s.cfg g) s))

/-- SET_BRIGHT (R163) -/
def execSetBright (b : F64) (s : State) : Result :=
  done (retune (s.seed.site 4) (storeBright (brightArg s.cfg b) s))

/-- SET_SR (R164): the one command that rejects an operand. -/
def execSetSr (r : F64) (s : State) : Result :=
  if badSampleRate r then .next (reject .badSampleRate s)
  else done (storeRate r (dcCoef (s.seed.site 5) r) s)

/-- CLEAR (R165) -/
def execClear (s : State) : Result := done (setPhase .cleared (clearAudio s))

/-- GET (R166): a register that does not exist is cause 4 (60 R202). -/
def execGet (reg : Reg) (s : State) : Result :=
  match regValue s reg with
  | some v => .next (respond false v s)
  | none => .next (reject .badSelector s)

end Sys2Proof.Machine
end

