-- ==== Sys2Proof/Machine/Processing.lean ====
section
/-! DEFINITION. The processing commands, one sample in Mode A, B or C (41_processing.md R140 to R143). -/

namespace Sys2Proof.Machine

/-- STEP_A (R141): the static caches. -/
def execStepA (e : F64) (s : State) : Result :=
  oneSample (s.seed.site 0) e s.LC_S s.DT_S (s.TA0, s.TA1) s

/-! ## What Modes B and C recompute for one sample (R142, R143); no register holds it (10_state.md R39) -/

/-- `sd`, the stored form of the per-sample delay argument `d`. -/
def modDelay (d : F64) (s : State) : F64 := delayArg (s.seed.site 1) s.cfg d

/-- `(dt, P)` of the per-sample delay. -/
def modSplit (d : F64) (s : State) : Split := split (s.seed.site 2) s.cfg (modDelay d s)

/-- The dynamic weights of the per-sample delay. -/
def modWeights (d : F64) (s : State) : List F64 :=
  dynamicWeights (s.seed.site 3) s.cfg.n s.CC (modSplit d s).p

/-- The tone coefficients of the gain `g` and the per-sample delay. -/
def modTone (g d : F64) (s : State) : F64 × F64 := toneCoef (s.seed.site 4) g s.B (modDelay d s)

/-- One sample with gain `g` and per-sample delay argument `d`. -/
def modulated (e g d : F64) (s : State) : Result :=
  oneSample (s.seed.site 0) e (modWeights d s) (modSplit d s).dt (modTone g d s) s

/-- STEP_B (R142): the delay per sample, the gain of SET_GAIN. -/
def execStepB (e d : F64) (s : State) : Result := modulated e s.G d s

/-- STEP_C (R143): gain and delay per sample. -/
def execStepC (e g d : F64) (s : State) : Result := modulated e (gainArg s.cfg g) d s

end Sys2Proof.Machine
end

