-- ==== Sys2Proof/Machine/Dispatch.lean ====
section
/-! DEFINITION. Which meaning each command has: one arm per row of opcode_table.json. -/

namespace Sys2Proof.Machine

def exec (i : Instr) (s : State) : Host.Outcome State Fault Refusal :=
  match i with
  | .nop => Sys2Proof.Machine.execNop s
  | .setDelay a => Sys2Proof.Machine.execSetDelay a s
  | .setGain g => Sys2Proof.Machine.execSetGain g s
  | .setBright b => Sys2Proof.Machine.execSetBright b s
  | .setSr r => Sys2Proof.Machine.execSetSr r s
  | .clear => Sys2Proof.Machine.execClear s
  | .stepA e => Sys2Proof.Machine.execStepA e s
  | .stepB e d => Sys2Proof.Machine.execStepB e d s
  | .stepC e g d => Sys2Proof.Machine.execStepC e g d s
  | .get reg => Sys2Proof.Machine.execGet reg s

end Sys2Proof.Machine
end

