-- ==== Sys2Proof/Machine/Step.lean ====
section
/-! DEFINITION. One step of the machine: the host's next input, taken and carried out (30_encoding.md R80, 20 R70). -/

namespace Sys2Proof.Machine

/-- One input. With none pending the core holds its state (60 R212). -/
def step (s : State) : Host.Outcome State Fault Refusal :=
  match fetch s with
  | .settled t => .next t
  | .run i t => exec i t
  | .refuse r => .refused r

/-- `s` with the transaction of a table row's word as the host's next input (log entry 4). -/
def State.withFetchWord (s : State) (nbits w : Nat) : State := offerWord nbits w s

end Sys2Proof.Machine
end

