-- ==== Sys2Proof/Machine/Assembler.lean ====
section
/-! DEFINITION. The assembler's text syntax (30_encoding.md R89): one command per line, operands separated by commas,
an operand a decimal literal rounded to nearest, the literals `NaN` and `inf` among them, or a raw pattern
`f64:0x<16 hex digits>`. Text is a list of characters. No step of the machine reads this file (log entry 19). -/

namespace Sys2Proof.Asm

/-! ## Characters and numbers -/

def isBlank (c : Char) : Bool := c = ' ' || c = '\t'

/-- The text without blanks at either end. -/
def trim (l : List Char) : List Char := ((l.dropWhile isBlank).reverse.dropWhile isBlank).reverse

/-- The value of a digit in a base up to 16. -/
def digit (base : Nat) (c : Char) : Option Nat :=
  let k := c.toNat
  let v := if 48 ≤ k ∧ k ≤ 57 then k - 48
    else if 97 ≤ k ∧ k ≤ 102 then k - 87
    else if 65 ≤ k ∧ k ≤ 70 then k - 55
    else base
  if v < base then some v else none

/-- The number a string of digits writes, from `acc` on; none where a character is no digit. -/
def digits (base : Nat) : Nat → List Char → Option Nat
  | acc, [] => some acc
  | acc, c :: cs =>
    match digit base c with
    | some v => digits base (acc * base + v) cs
    | none => none

/-- A number of at least one digit. -/
def number (base : Nat) (l : List Char) : Option Nat := if l = [] then none else digits base 0 l

/-- `0x` and hex digits, or decimal digits. -/
def natLit : List Char → Option Nat
  | '0' :: 'x' :: hex => number 16 hex
  | dec => number 10 dec

/-- The sign in front of a number, and the rest. -/
def signed : List Char → Bool × List Char
  | '-' :: cs => (true, cs)
  | '+' :: cs => (false, cs)
  | cs => (false, cs)

/-- The decimal exponent after `e` or `E`. -/
def exponent (l : List Char) : Option Int :=
  let p := signed l
  (number 10 p.2).map (fun k => if p.1 then -(k : Int) else (k : Int))

/-- The binary64 nearest to `± m * 10^x`. -/
def decimal (neg : Bool) (m : Nat) (x : Int) : F64 :=
  if 0 ≤ x then F64.ofRatio neg (m * 10 ^ x.toNat * F64.unit) 1
  else F64.ofRatio neg (m * F64.unit) (10 ^ (-x).toNat)

def isExpMark (c : Char) : Bool := c = 'e' || c = 'E'

/-- The operand written `NaN`: one NaN, whose sign and payload are a free value (log entries 3 and 19). The seed is that of
no operation. -/
def nanLit : F64 := F64.nan ⟨0, []⟩

/-- `NaN`, and `inf` with an optional sign: DESIGN CHOICE (log entry 19). R89 says only "decimal binary64 literal" and
leaves open whether these are operands; the vectors of 95_test_vectors.md, which are in R89's syntax, write `NaN`, `+inf`
and `-inf`. -/
def specialLit (l : List Char) : Option F64 :=
  if l = ['N', 'a', 'N'] then some nanLit
  else if (signed l).2 = ['i', 'n', 'f'] then some (F64.inf (signed l).1)
  else none

/-- A decimal binary64 literal that is a number: sign, digits with an optional point, optional exponent. The literals that
are none stand in `specialLit`. -/
def decimalLit (l : List Char) : Option F64 := do
  let (neg, body) := signed l
  let (mant, tail) := body.span (fun c => !isExpMark c)
  let (whole, point) := mant.span (fun c => c ≠ '.')
  let frac := point.drop 1
  let m ← number 10 (whole ++ frac)
  let x ← if tail = [] then some 0 else exponent (tail.drop 1)
  pure (decimal neg m (x - (frac.length : Int)))

/-- An operand of a command (R89). -/
def operand (l : List Char) : Option F64 :=
  match l with
  | 'f' :: '6' :: '4' :: ':' :: '0' :: 'x' :: hex =>
    if hex.length = 16 then (number 16 hex).map (BitVec.ofNat 64) else none
  | _ => (specialLit l).or (decimalLit l)

/-- The parts of a line between its commas, trimmed; none for an empty text. -/
def fields (l : List Char) : List (List Char) :=
  if trim l = [] then [] else (l.splitOn ',').map trim

/-! ## Register names (10_state.md R35) -/

/-- The registers with a name of their own. -/
def regNames : List (List Char × Reg) := [
  (['S', 'T', 'A', 'T', 'U', 'S'], .status), (['S'], .s), (['G'], .g), (['B'], .b), (['S', 'R'], .sr),
  (['T', 'A', '0'], .ta0), (['T', 'A', '1'], .ta1),
  (['D', 'A', '0'], .da0), (['D', 'A', '1'], .da1), (['D', 'B', '1'], .db1),
  (['C', 'U', 'R', 'S', 'O', 'R'], .cursor),
  (['T', 'X', '1'], .tx1), (['T', 'X', '2'], .tx2), (['D', 'U', '1'], .du1), (['D', 'Y', '1'], .dy1),
  (['D', 'T', '_', 'S'], .dtS),
  (['C', 'F', 'G', '_', 'N'], .cfgN), (['C', 'F', 'G', '_', 'H'], .cfgH),
  (['C', 'F', 'G', '_', 'M', 'I', 'N', '_', 'D', 'E', 'L', 'A', 'Y'], .cfgMinDelay),
  (['C', 'F', 'G', '_', 'M', 'A', 'X', '_', 'D', 'E', 'L', 'A', 'Y'], .cfgMaxDelay),
  (['C', 'F', 'G', '_', 'L'], .cfgL),
  (['C', 'F', 'G', '_', 'M', 'A', 'X', '_', 'G', 'A', 'I', 'N'], .cfgMaxGain)]

/-- The index of `LC_S[j]` or `CC[j]`, `j` in `0..15`, from the text after the opening bracket. -/
def index (l : List Char) : Option (Fin 16) := do
  let j ← if l.getLast? = some ']' then number 10 l.dropLast else none
  if h : j < 16 then some ⟨j, h⟩ else none

/-- The register a name names. -/
def regNamed (l : List Char) : Option Reg :=
  match l with
  | 'L' :: 'C' :: '_' :: 'S' :: '[' :: rest => (index rest).map .lc
  | 'C' :: 'C' :: '[' :: rest => (index rest).map .cc
  | _ => (regNames.find? (fun p => p.1 = l)).map (fun p => p.2)

/-! ## Lines -/

/-- `GET name` or `GET sel`: the assembler does not ask whether the selector is assigned (R89). -/
def getWord (l : List Char) : Option Transaction :=
  match regNamed l with
  | some reg => some (encode (.get reg))
  | none =>
    match natLit l with
    | some sel => if sel < 256 then some ⟨BitVec.ofNat 32 (sel * 16 + 9), 0, 0, 0⟩ else none
    | none => none

/-- The transaction of a mnemonic and its operands; none where the line is no line of R89. -/
def command (m : List Char) (ops : List (List Char)) : Option Transaction :=
  match m, ops with
  | ['N', 'O', 'P'], [] => some (encode .nop)
  | ['C', 'L', 'E', 'A', 'R'], [] => some (encode .clear)
  | ['S', 'E', 'T', '.', 'D', 'E', 'L', 'A', 'Y'], [a] => (operand a).map (fun a => encode (.setDelay a))
  | ['S', 'E', 'T', '.', 'G', 'A', 'I', 'N'], [g] => (operand g).map (fun g => encode (.setGain g))
  | ['S', 'E', 'T', '.', 'B', 'R', 'I', 'G', 'H', 'T'], [b] => (operand b).map (fun b => encode (.setBright b))
  | ['S', 'E', 'T', '.', 'S', 'R'], [r] => (operand r).map (fun r => encode (.setSr r))
  | ['S', 'T', 'E', 'P', '.', 'A'], [e] => (operand e).map (fun e => encode (.stepA e))
  | ['S', 'T', 'E', 'P', '.', 'B'], [e, d] => do
    let e ← operand e
    let d ← operand d
    pure (encode (.stepB e d))
  | ['S', 'T', 'E', 'P', '.', 'C'], [e, g, d] => do
    let e ← operand e
    let g ← operand g
    let d ← operand d
    pure (encode (.stepC e g d))
  | ['G', 'E', 'T'], [r] => getWord r
  | ['.', 'w', 'o', 'r', 'd'], [c, a, b, x] => do
    let c ← natLit c
    let a ← operand a
    let b ← operand b
    let x ← operand x
    if c < 2 ^ 32 then some (AsmLine.word (BitVec.ofNat 32 c) a b x).assemble else none
  | _, _ => none

/-- The transaction of one line of text. -/
def line (l : List Char) : Option Transaction :=
  let l := trim l
  command (l.takeWhile (fun c => !isBlank c)) (fields (l.dropWhile (fun c => !isBlank c)))

end Sys2Proof.Asm
end

