-- ==== Sys2Proof/Machine/Block.lean ====
section
/-! DEFINITION. Blocks of commands: the source's `processBlock` as a run of STEP commands (41_processing.md R144, 30 R90).
The core keeps no block state, so all of this is built from `step`. -/

namespace Sys2Proof.Machine

/-- The host offers one more command, ahead of what it offered before. -/
def offer (i : Instr) (s : State) : State := { s with inbox := .command (encode i) :: s.inbox }

/-- The commands one after another; their responses in order and the last state, none if a step answers no
response. -/
def runCommands : List Instr → State → Option (List Response × State)
  | [], s => some ([], s)
  | i :: is, s =>
    match step (offer i s) with
    | .next t =>
      match t.resp, runCommands is t with
      | some r, some (rs, u) => some (r :: rs, u)
      | _, _ => none
    | .fault _ => none
    | .refused _ => none

/-- `processBlock` (R144): the outputs of a block are the `RDATA` of its STEP responses in order (30 R90). -/
def processBlock (n : Nat) (e : List F64) (g d : Option (List F64)) (s : State) : Option (List F64 × State) := do
  let is ← (Pseudo.process n e g d).expand
  let (rs, t) ← runCommands is s
  pure (rs.map (fun r => r.rdata), t)

end Sys2Proof.Machine
end

