-- ==== Sys2Proof/Safety.lean ====
section
/-! DEFINITION. The terms claims are stated in: the invariant of 10_state.md R40, which part of the state two states
share (the frames), and the meanings taken one after another. -/

namespace Sys2Proof

/-- The exact magnitude from which on a result rounds to an infinity, in units of `2^-1074`: half a unit in the last
place above the largest finite value (IEEE 754, PRESUMED, log entry 12). -/
def F64.overflowAt : Int := (2 ^ 54 - 1) * 2 ^ 2044

end Sys2Proof

namespace Sys2Proof.Machine

/-! ## The invariant (R40) -/

/-- R40, with what else every reachable state satisfies. A cache equals the function of the parameters for some
choice of the free NaN bits (00_scope.md R9). -/
structure State.Inv (s : State) : Prop where
  /-- 00_scope.md R7 -/
  cfgValid : s.cfg.valid = true
  /-- 70 R233 -/
  started : s.PHASE ≠ .uninitialized
  /-- The buffer is in canonical form and has no word outside `0..L-1` (20 R60). -/
  bufWf : s.BUF.wf
  bufRange : ∀ c ∈ s.BUF, c.1 < s.cfg.len
  cursorRange : s.CURSOR < s.cfg.len
  /-- `MIN_DELAY - 1 <= S <= MAX_DELAY - 1` -/
  delayLow : F64.le (F64.ofNat (s.cfg.minDelay - 1)) s.S = true
  delayHigh : F64.le s.S (F64.ofNat (s.cfg.maxDelay - 1)) = true
  gainLow : F64.le (F64.neg s.cfg.maxGain) s.G = true
  gainHigh : F64.le s.G s.cfg.maxGain = true
  brightLow : F64.le F64.pzero s.B = true
  brightHigh : F64.le s.B s.cfg.maxGain = true
  rateFinite : F64.isFinite s.SR = true
  rateLow : F64.le F64.one s.SR = true
  delayCache : ∃ ν μ, s.DT_S = (split ν s.cfg s.S).dt ∧ s.LC_S = staticWeights μ s.cfg.n (split ν s.cfg s.S).p
  toneCache : ∃ ν, (s.TA0, s.TA1) = toneCoef ν s.G s.B s.S
  dcCache : ∃ ν, (⟨s.DA0, s.DA1, s.DB1⟩ : DcCoef) = dcCoef ν s.SR
  factorCache : ∃ ν, s.CC = ccInit ν s.cfg.n
  /-- ECAUSE is 0 exactly when no command was rejected since reset (R34). -/
  causeErr : s.ERR = true ↔ s.ECAUSE ≠ none
  /-- A rejected command answers no data (30 R87). -/
  rejectedData : ∀ r, s.resp = some r → r.rerr = true → r.rdata = 0#64

/-! ## Frames -/

/-- The delay parameter and its cache. -/
structure SameDelay (s t : State) : Prop where
  S : t.S = s.S
  DT_S : t.DT_S = s.DT_S
  LC_S : t.LC_S = s.LC_S

/-- The static tone coefficients. -/
structure SameTone (s t : State) : Prop where
  TA0 : t.TA0 = s.TA0
  TA1 : t.TA1 = s.TA1

/-- The sample rate and its coefficients. -/
structure SameRate (s t : State) : Prop where
  SR : t.SR = s.SR
  DA0 : t.DA0 = s.DA0
  DA1 : t.DA1 = s.DA1
  DB1 : t.DB1 = s.DB1

/-- What is fixed after reset. -/
structure SameFixed (s t : State) : Prop where
  cfg : t.cfg = s.cfg
  CC : t.CC = s.CC

/-- The filter histories and the cursor. -/
structure SameHistory (s t : State) : Prop where
  CURSOR : t.CURSOR = s.CURSOR
  TX1 : t.TX1 = s.TX1
  TX2 : t.TX2 = s.TX2
  DU1 : t.DU1 = s.DU1
  DY1 : t.DY1 = s.DY1

/-- The audio state: every word of the buffer, the cursor and the histories. -/
structure SameAudio (s t : State) : Prop where
  buf : ∀ i, t.BUF.read i = s.BUF.read i
  history : SameHistory s t

/-- The fields of STATUS. -/
structure SameStatus (s t : State) : Prop where
  PHASE : t.PHASE = s.PHASE
  ERR : t.ERR = s.ERR
  ECAUSE : t.ECAUSE = s.ECAUSE

/-- The host's side: the inputs to come, and the number of the command. -/
structure SameInputs (s t : State) : Prop where
  inbox : t.inbox = s.inbox
  freeSeq : t.freeSeq = s.freeSeq

/-- Every parameter and every coefficient: all that CLEAR keeps besides STATUS (42 R165), and all that a STEP keeps
(10_state.md R39). -/
structure SameSetup (s t : State) : Prop where
  delay : SameDelay s t
  G : t.G = s.G
  B : t.B = s.B
  tone : SameTone s t
  rate : SameRate s t
  fixed : SameFixed s t

/-! ## Silence (40_datapath.md R115) -/

/-- Every word of the audio state is a zero of either sign. -/
structure Silent (s : State) : Prop where
  buf : ∀ i, F64.isZero (s.BUF.read i) = true
  TX1 : F64.isZero s.TX1 = true
  TX2 : F64.isZero s.TX2 = true
  DU1 : F64.isZero s.DU1 = true
  DY1 : F64.isZero s.DY1 = true

/-! ## The per-sample step as a relation (40_datapath.md R105, R111, R113, R114), each rounding by itself -/

/-- `r` is `fl(a + b)` (for some choice of the NaN bits, where it is a NaN). -/
def IsSum (a b r : F64) : Prop := ∃ ν, r = F64.add ν a b

/-- `r` is `fl(a * b)`. -/
def IsProduct (a b r : F64) : Prop := ∃ ν, r = F64.mul ν a b

/-- `x` is the running sum `acc` and the products of the weights from tap `j` on. -/
def TapSum (s : State) (dt : Nat) : Nat → F64 → List F64 → F64 → Prop
  | _, acc, [], x => x = acc
  | j, acc, w :: ws, x =>
    ∃ p q, IsProduct w (readAt s (dt + j)) p ∧ IsSum acc p q ∧ TapSum s dt (j + 1) q ws x

/-- `x = interp(dt, w)` (R105). -/
def IsInterp (s : State) (dt : Nat) : List F64 → F64 → Prop
  | [], x => x = F64.pzero
  | w :: ws, x => ∃ p, IsProduct w (readAt s (dt + 0)) p ∧ TapSum s dt 1 p ws x

/-- `r` is `fl(fl(fl(c0 * x0) + fl(c1 * x1)) + fl(c2 * x2))`, the shape of R111 and R113. -/
def IsFir (c0 x0 c1 x1 c2 x2 r : F64) : Prop :=
  ∃ p0 p1 p2 q, IsProduct c0 x0 p0 ∧ IsProduct c1 x1 p1 ∧ IsSum p0 p1 q ∧ IsProduct c2 x2 p2 ∧ IsSum q p2 r

/-- What a STEP leaves alone (10_state.md R39): all but BUF[CURSOR], CURSOR, TX1, TX2, DU1, DY1, PHASE and the
response. -/
structure StepFrame (s t : State) : Prop where
  setup : SameSetup s t
  ERR : t.ERR = s.ERR
  ECAUSE : t.ECAUSE = s.ECAUSE
  inputs : SameInputs s t
  buf : ∀ i, i ≠ s.CURSOR → t.BUF.read i = s.BUF.read i

/-- `t` is what `oneSample(e, w, dt, a0, a1)` of R114 makes of `s`, and the answer of the command is `y`. -/
structure OneSample (s t : State) (e : F64) (w : List F64) (dt : Nat) (a : F64 × F64) (y : F64) : Prop where
  /-- interpolate, tone-filter, sum with the excitation, DC-block -/
  values : ∃ f, IsInterp s dt w t.TX1 ∧ IsFir a.1 t.TX1 a.2 s.TX1 a.1 s.TX2 f ∧ IsSum f e t.DU1 ∧
    IsFir s.DA0 t.DU1 s.DA1 s.DU1 s.DB1 s.DY1 y
  TX2 : t.TX2 = s.TX1
  DY1 : t.DY1 = y
  /-- emit and write back -/
  written : t.BUF.read s.CURSOR = y
  emitted : t.resp = some ⟨false, y⟩
  /-- advance the cursor -/
  CURSOR : t.CURSOR = (s.CURSOR + 1) % s.cfg.len
  PHASE : t.PHASE = .running
  frame : StepFrame s t

/-! ## Kinds of commands -/

/-- STEP_A, STEP_B, STEP_C. -/
def isStep : Instr → Bool
  | .stepA _ | .stepB _ _ | .stepC _ _ _ => true
  | .nop | .setDelay _ | .setGain _ | .setBright _ | .setSr _ | .clear | .get _ => false

/-- SET_DELAY, SET_GAIN, SET_BRIGHT: the setters of 42 R167. -/
def isParamSetter : Instr → Bool
  | .setDelay _ | .setGain _ | .setBright _ => true
  | .nop | .setSr _ | .clear | .stepA _ | .stepB _ _ | .stepC _ _ _ | .get _ => false

/-- The last SET_DELAY argument of a list of commands. -/
def lastDelay : List Instr → Option F64
  | [] => none
  | .setDelay a :: is => some ((lastDelay is).getD a)
  | _ :: is => lastDelay is

/-- The last SET_GAIN argument. -/
def lastGain : List Instr → Option F64
  | [] => none
  | .setGain g :: is => some ((lastGain is).getD g)
  | _ :: is => lastGain is

/-- The last SET_BRIGHT argument. -/
def lastBright : List Instr → Option F64
  | [] => none
  | .setBright b :: is => some ((lastBright is).getD b)
  | _ :: is => lastBright is

/-! ## Meanings one after another -/

/-- The meanings of a list of commands, each on the state the one before it left, as `step` takes them: the input
leaves the host's list and gets its number. -/
def runInstrs : List Instr → State → Result
  | [], s => .next s
  | i :: is, s =>
    match exec i (accept s.inbox.tail s) with
    | .next t => runInstrs is t
    | .fault r => .fault r
    | .refused r => .refused r

/-- The host's inputs for a list of commands. -/
def commandsOf (is : List Instr) : List Input := is.map (fun i => .command (encode i))

/-- Two lists of the same length, equal element by element up to the open bits of a NaN. -/
def sameList (a b : List F64) : Prop := List.Forall₂ (fun x y => F64.same x y = true) a b

/-- The lanes of a transaction that its opcode reads (30_encoding.md R82), the others zero. -/
def readLanes (t : Transaction) : F64 × F64 × F64 :=
  match (cmdOp t.cmd).toNat with
  | 1 | 2 | 3 | 4 | 6 => (t.opa, 0#64, 0#64)
  | 7 => (t.opa, 0#64, t.opc)
  | 8 => (t.opa, t.opb, t.opc)
  | _ => (0#64, 0#64, 0#64)

end Sys2Proof.Machine
end

