-- ==== Sys2Proof/Certificates/Slice0/Obligations.lean ====
section
/-! DEFINITION. The statements for the provers, each a proposition about the machine of Machine/. Rules R<n> are those of
spec/; entry n is notes/assumptions/n.md. The spec marks R7, R40, R66, R100, R106, R115 to R117, R145, R167 and R168 as its
own inference ([derived]); a statement that rests on one of them has basis derived. -/

open Sys2Proof Sys2Proof.Machine

/-! ## Reset and elaboration -/

/-- 10_state.md R41 with R21 to R34, for the standard configuration: every register right after reset but TA0 and TA1,
which depend on COS (OpenLoopToneIsZero). -/
def Obligations.ResetRegisterValues : Prop :=
  (∀ i, State.reset.BUF.read i = 0#64) ∧ State.reset.CURSOR = 0 ∧
  State.reset.TX1 = 0#64 ∧ State.reset.TX2 = 0#64 ∧ State.reset.DU1 = 0#64 ∧ State.reset.DY1 = 0#64 ∧
  State.reset.S = 0x4000000000000000#64 ∧ State.reset.G = 0#64 ∧ State.reset.B = 0#64 ∧
  State.reset.SR = 0x40E5888000000000#64 ∧ State.reset.DT_S = 1 ∧
  State.reset.LC_S = [0x8000000000000000#64, 0x3FF0000000000000#64, 0#64, 0x8000000000000000#64] ∧
  State.reset.CC =
    [0xBFC5555555555555#64, 0x3FE0000000000000#64, 0xBFE0000000000000#64, 0x3FC5555555555555#64] ∧
  State.reset.DA0 = 0x3FEFF45850D440D5#64 ∧ State.reset.DA1 = 0xBFEFF45850D440D5#64 ∧
  State.reset.DB1 = 0x3FEFE8B0A1A881AB#64 ∧
  State.reset.PHASE = .configured ∧ State.reset.ERR = false ∧ State.reset.ECAUSE = none ∧
  State.reset.resp = none

/-- 10_state.md R29, R41: with gain and brightness `+0.0` the tone coefficients are `(+0.0, +0.0)` whatever finite value
above -1 the cosine has, and the reset coefficients are of that form. (R29 says so for every finite value but -1.0;
below -1 the IEEE quotient is `-0.0`: entry 14.) -/
def Obligations.OpenLoopToneIsZero : Prop :=
  (∀ ν c, F64.isFinite c = true → F64.lt (F64.neg F64.one) c = true →
    toneFrom ν c F64.pzero F64.pzero = (F64.pzero, F64.pzero)) ∧
  ∀ c k, ∃ ν μ, ((State.resetOf c k).TA0, (State.resetOf c k).TA1) =
    toneFrom ν (Config.cos (omega0 μ (State.resetOf c k).S)) F64.pzero F64.pzero

/-- 00_scope.md R6, R7, 60_exceptions.md R213: a configuration elaborates exactly when every clause of R7 (which the
spec marks as its own inference) and the bound on MAX_DELAY hold; otherwise there is no instance. That the model says so
by the refusal notElaborated, of elaborate and of every step, is its own choice (entry 10). -/
def Obligations.ElaborationChecksConfiguration : Prop :=
  ∀ c : Config,
    ((c.n % 2 = 1 ∧ 1 ≤ c.n ∧ c.n ≤ 15 ∧ c.h = (c.n - 1) / 2 ∧ c.h + 2 ≤ c.minDelay ∧ 3 ≤ c.minDelay ∧
        8192 ≤ c.maxDelay ∧ c.minDelay < c.maxDelay ∧ c.maxDelay ≤ 2 ^ 24 ∧
        F64.lt F64.pzero c.maxGain = true ∧ F64.lt c.maxGain F64.one = true) ∧
      elaborate c = .next (State.resetOf c 0)) ∨
    (¬ (c.n % 2 = 1 ∧ 1 ≤ c.n ∧ c.n ≤ 15 ∧ c.h = (c.n - 1) / 2 ∧ c.h + 2 ≤ c.minDelay ∧ 3 ≤ c.minDelay ∧
        8192 ≤ c.maxDelay ∧ c.minDelay < c.maxDelay ∧ c.maxDelay ≤ 2 ^ 24 ∧
        F64.lt F64.pzero c.maxGain = true ∧ F64.lt c.maxGain F64.one = true) ∧
      elaborate c = .refused .notElaborated ∧ ∀ s : State, s.cfg = c → step s = .refused .notElaborated)

/-- 00_scope.md R6, 10_state.md R22: `CW = ceil(log2 L)`, and the cursor fits its register. -/
def Obligations.CursorFitsItsWidth : Prop :=
  (∀ c : Config, c.len ≤ 2 ^ c.cw ∧ 2 ^ (c.cw - 1) < c.len) ∧ ∀ s : State, s.Inv → s.CURSOR < 2 ^ s.cfg.cw

/-! ## Encoding -/

/-- 30_encoding.md R83, R89: the words of the table, written out from the spec, decode to their commands. -/
def Obligations.TableWordsDecode : Prop :=
  decodeTableWord 32 0x00000000 = some .nop ∧
  decodeTableWord 96 (0x4010000000000000 * 2 ^ 32 + 0x00000001) = some (.setDelay 0x4010000000000000#64) ∧
  decodeTableWord 96 (0x3FE0000000000000 * 2 ^ 32 + 0x00000002) = some (.setGain 0x3FE0000000000000#64) ∧
  decodeTableWord 96 (0x3FE0000000000000 * 2 ^ 32 + 0x00000003) = some (.setBright 0x3FE0000000000000#64) ∧
  decodeTableWord 96 (0x40E7700000000000 * 2 ^ 32 + 0x00000004) = some (.setSr 0x40E7700000000000#64) ∧
  decodeTableWord 32 0x00000005 = some .clear ∧
  decodeTableWord 96 (0x3FF0000000000000 * 2 ^ 32 + 0x00000006) = some (.stepA 0x3FF0000000000000#64) ∧
  decodeTableWord 224 (0x4012000000000000 * 2 ^ 160 + 0x3FF0000000000000 * 2 ^ 32 + 0x00000007) =
    some (.stepB 0x3FF0000000000000#64 0x4012000000000000#64) ∧
  decodeTableWord 224 (0x4010000000000000 * 2 ^ 160 + 0xBFE0000000000000 * 2 ^ 96 + 0x3FF0000000000000 * 2 ^ 32 +
    0x00000008) = some (.stepC 0x3FF0000000000000#64 0xBFE0000000000000#64 0x4010000000000000#64) ∧
  decodeTableWord 32 0x00000029 = some (.get .g) ∧
  decodeTableWord 32 0x00000139 = some (.get (.lc 3)) ∧
  decodeTableWord 32 0x00000149 = none ∧ decodeTableWord 32 0x0000000A = none

/-- 30_encoding.md R82, R83, R89: for every command that exists in a configuration, with every operand, decoding its
encoding gives the command back. -/
def Obligations.DecodeOfEncodeIsIdentity : Prop :=
  ∀ (c : Config) (i : Instr), i.wellFormed c = true → decode c (encode i) = .ok i

/-- 30_encoding.md R84 to R86, R88, 60_exceptions.md R203: which words are rejected, with which cause, and in which
priority, as conditions on the number `CMD`. -/
def Obligations.RejectionCausesInPriority : Prop :=
  ∀ (c : Config) (t : Transaction),
    (decode c t = .error .reservedOpcode ↔ 10 ≤ t.cmd.toNat % 16) ∧
    (decode c t = .error .reservedBits ↔ t.cmd.toNat % 16 < 10 ∧ 4096 ≤ t.cmd.toNat) ∧
    (decode c t = .error .selNotZero ↔ t.cmd.toNat % 16 < 9 ∧ t.cmd.toNat < 4096 ∧ 16 ≤ t.cmd.toNat) ∧
    (decode c t = .error .badSelector ↔
      t.cmd.toNat % 16 = 9 ∧ t.cmd.toNat < 4096 ∧
        ¬ (t.cmd.toNat / 16 < 0x10 ∨
          (0x10 ≤ t.cmd.toNat / 16 ∧ t.cmd.toNat / 16 < 0x20 ∧ t.cmd.toNat / 16 ≤ 0x10 + c.n) ∨
          (0x20 ≤ t.cmd.toNat / 16 ∧ t.cmd.toNat / 16 < 0x30 ∧ t.cmd.toNat / 16 ≤ 0x20 + c.n) ∨
          (0x30 ≤ t.cmd.toNat / 16 ∧ t.cmd.toNat / 16 ≤ 0x35))) ∧
    decode c t ≠ .error .badSampleRate

/-- 30_encoding.md R83, opcode_table.json: an accepted word is of exactly one row of the table, the row of the command
it decodes to; a word of a row is accepted, GET if its selector is assigned. -/
def Obligations.AcceptedWordsAreTheTable : Prop :=
  (∀ (c : Config) (t : Transaction) (i : Instr), decode c t = .ok i →
    (opTable.filter (fun r => r.accepts t.cmd)).map (fun r => r.mnemonic) = [i.mnemonic] ∧
      i.wellFormed c = true) ∧
  ∀ (c : Config) (t : Transaction) (r : OpRow), r ∈ opTable → r.accepts t.cmd = true →
    (r.mnemonic = "GET" → (Reg.ofSel c (cmdSel t.cmd)).isSome = true) →
    ∃ i, decode c t = .ok i ∧ i.mnemonic = r.mnemonic

/-- 30_encoding.md R82: a lane the opcode does not read never affects the state or the response. -/
def Obligations.IgnoredLanesHaveNoEffect : Prop :=
  ∀ (s : State) (t u : Transaction) (rest : List Input), t.cmd = u.cmd → readLanes t = readLanes u →
    step { s with inbox := .command t :: rest } = step { s with inbox := .command u :: rest }

/-- 20_memory.md R64: a byte-serial adapter sends the eight bytes of a word least significant first, and the word comes
back. -/
def Obligations.AdapterBytesAreLittleEndian : Prop :=
  ∀ w : F64, (adapterBytes w).length = 8 ∧ (∀ k, k < 8 → (adapterBytes w)[k]? = some (w.extractLsb' (8 * k) 8)) ∧
    adapterWord (adapterBytes w) = w

/-! ## Steps -/

/-- 30_encoding.md R80, R88: the step of a pending transaction that decodes to a command is that command's meaning, on
the state with the transaction taken; and the host's withFetchWord makes its word that transaction (entries 4 and 18). -/
def Obligations.StepRunsTheDecodedCommand : Prop :=
  (∀ (s : State) (t : Transaction) (rest : List Input) (i : Instr),
    s.cfg.valid = true → s.PHASE ≠ .uninitialized → s.inbox = .command t :: rest → decode s.cfg t = .ok i →
    step s = exec i (accept rest s) ∧ (accept rest s).inbox = rest) ∧
  ∀ (s : State) (nbits w : Nat) (i : Instr),
    s.cfg.valid = true → s.PHASE ≠ .uninitialized → decode s.cfg (Transaction.ofTableWord nbits w) = .ok i →
    step (s.withFetchWord nbits w) = exec i (accept s.inbox s)

/-- 60_exceptions.md R201: a rejected command sets ERR and ECAUSE, answers `{1, 0}`, and has no other effect, whether
decoding rejects it or SET_SR does. -/
def Obligations.RejectionChangesOnlyErrAndCause : Prop :=
  (∀ (s : State) (t : Transaction) (rest : List Input) (c : Cause),
    s.cfg.valid = true → s.PHASE ≠ .uninitialized → s.inbox = .command t :: rest → decode s.cfg t = .error c →
    ∃ u, step s = .next u ∧ u.ERR = true ∧ u.ECAUSE = some c ∧ u.resp = some ⟨true, 0#64⟩ ∧
      SameSetup s u ∧ SameAudio s u ∧ u.PHASE = s.PHASE ∧ u.inbox = rest) ∧
  ∀ (s : State) (r : F64), (F64.isNaN r = true ∨ F64.isInf r = true ∨ F64.lt r F64.one = true) →
    ∃ u, exec (.setSr r) s = .next u ∧ u.ERR = true ∧ u.ECAUSE = some .badSampleRate ∧
      u.resp = some ⟨true, 0#64⟩ ∧ SameSetup s u ∧ SameAudio s u ∧ u.PHASE = s.PHASE ∧ SameInputs s u

/-- 60_exceptions.md R212: with nothing pending the core holds its state unchanged indefinitely. -/
def Obligations.IdleCoreHoldsItsState : Prop :=
  ∀ (s : State) (k : Nat), s.cfg.valid = true → s.inbox = [] → core.run k s = .next s

/-- 70_reset_and_hazards.md R230, 93 I23: a reset, in any state and with any command in flight, puts every register at
its reset value and answers nothing; the command in flight has no effect. The reset input in the list of inputs, with
the later inputs still pending, is the model's choice (entry 6). S is `MIN_DELAY - 1` in every configuration (R41). -/
def Obligations.ResetFromAnyState : Prop :=
  ∀ (s : State) (f : Option Transaction) (rest : List Input), s.cfg.valid = true → s.inbox = .reset f :: rest →
    ∃ t, step s = .next t ∧ SameSetup (State.resetOf s.cfg (s.freeSeq + 1)) t ∧
      F64.isFinite t.S = true ∧ F64.value t.S = ((s.cfg.minDelay : Int) - 1) * (F64.unit : Int) ∧
      t.DT_S + s.cfg.h + 1 = s.cfg.minDelay ∧
      (∀ i, t.BUF.read i = F64.pzero) ∧ t.CURSOR = 0 ∧ t.TX1 = F64.pzero ∧ t.TX2 = F64.pzero ∧
      t.DU1 = F64.pzero ∧ t.DY1 = F64.pzero ∧ t.G = F64.pzero ∧ t.B = F64.pzero ∧ t.SR = Config.defaultSr ∧
      t.PHASE = .configured ∧ t.ERR = false ∧ t.ECAUSE = none ∧ t.resp = none ∧ t.inbox = rest

/-- 70_reset_and_hazards.md R233 (entry 9): a command before the first reset is refused by name, and a reset is not. -/
def Obligations.CommandBeforeResetIsRefused : Prop :=
  ∀ (s : State) (rest : List Input), s.cfg.valid = true → s.PHASE = .uninitialized →
    (∀ t, s.inbox = .command t :: rest → step s = .refused .beforeFirstReset) ∧
    ∀ f, s.inbox = .reset f :: rest → ∃ u, step s = .next u ∧ u.PHASE = .configured

/-- 30_encoding.md R87: every transaction, accepted or rejected, is answered by exactly one response; a rejected one
answers no data and sets ERR, an accepted one leaves ERR and ECAUSE. -/
def Obligations.EveryCommandIsAnsweredOnce : Prop :=
  ∀ (s : State) (t : Transaction) (rest : List Input),
    s.cfg.valid = true → s.PHASE ≠ .uninitialized → s.CURSOR < s.cfg.len → s.inbox = .command t :: rest →
    ∃ u r, step s = .next u ∧ u.inbox = rest ∧ u.resp = some r ∧
      (r.rerr = true → r.rdata = 0#64 ∧ u.ERR = true ∧ u.ECAUSE ≠ none) ∧
      (r.rerr = false → u.ERR = s.ERR ∧ u.ECAUSE = s.ECAUSE)

/-- 10_state.md R40: the invariant holds right after reset in the standard configuration (R40 is the spec's
inference). -/
def Obligations.InvariantHoldsAtReset : Prop := State.reset.Inv

/-- 10_state.md R40: the invariant holds after the reset of every configuration that elaborates. -/
def Obligations.InvariantHoldsAtEveryReset : Prop :=
  ∀ (c : Config) (k : Nat), c.valid = true → (State.resetOf c k).Inv

/-- 10_state.md R40: every step keeps the invariant. -/
def Obligations.EveryStepKeepsTheInvariant : Prop :=
  ∀ s t : State, s.Inv → step s = .next t → t.Inv

/-- 70_reset_and_hazards.md R232, 60_exceptions.md R201: from a state of the invariant no step faults or is refused,
however many inputs of whatever kind the host offers. -/
def Obligations.CoreNeverStops : Prop :=
  ∀ (s : State) (k : Nat), s.Inv → ∃ t, core.run k s = .next t ∧ t.Inv

/-- 20_memory.md R70, 70_reset_and_hazards.md R236: commands take effect one at a time, in the order the host offers
them, each on the state the earlier ones left. The list of pending inputs is the model's choice (entry 4). -/
def Obligations.QueuedCommandsRunInOrder : Prop :=
  ∀ (is : List Instr) (s : State) (rest : List Input),
    s.cfg.valid = true → s.PHASE ≠ .uninitialized → (∀ i ∈ is, i.wellFormed s.cfg = true) →
    s.inbox = commandsOf is ++ rest → core.run is.length s = runInstrs is s

/-! ## Control commands -/

/-- 42_control.md R160: the all-zero command word is NOP whatever the lanes; NOP answers `{0, 0}` and writes nothing. -/
def Obligations.NopOnlyAnswers : Prop :=
  (∀ (c : Config) (a b x : F64), decode c ⟨0#32, a, b, x⟩ = .ok .nop) ∧
  ∀ s : State, ∃ t, exec .nop s = .next t ∧ t.resp = some ⟨false, 0#64⟩ ∧ SameSetup s t ∧ SameAudio s t ∧
    SameStatus s t ∧ SameInputs s t

/-- 10_state.md R35, R36, 42_control.md R166: the word `(SEL << 4) | 9` of each assigned selector reads the register
R35 lists for it, with the value that register holds. -/
def Obligations.GetReadsTheSelectedRegister : Prop :=
  ∀ (s : State) (a b x : F64) (sel : Nat) (v : F64),
    ((sel, v) ∈ [
        (0x00, BitVec.ofNat 64 ((if s.ERR then 1 else 0) + 16 * (causeCode s.ECAUSE).toNat +
          256 * (phaseCode s.PHASE).toNat)),
        (0x01, s.S), (0x02, s.G), (0x03, s.B), (0x04, s.SR), (0x05, s.TA0), (0x06, s.TA1), (0x07, s.DA0),
        (0x08, s.DA1), (0x09, s.DB1), (0x0A, BitVec.ofNat 64 s.CURSOR), (0x0B, s.TX1), (0x0C, s.TX2),
        (0x0D, s.DU1), (0x0E, s.DY1), (0x0F, BitVec.ofNat 64 s.DT_S), (0x30, BitVec.ofNat 64 s.cfg.n),
        (0x31, BitVec.ofNat 64 ((s.cfg.n - 1) / 2)), (0x32, BitVec.ofNat 64 (max 3 ((s.cfg.n - 1) / 2 + 2))),
        (0x33, BitVec.ofNat 64 (max 8192 s.cfg.maxDelayReq)),
        (0x34, BitVec.ofNat 64 (max 8192 s.cfg.maxDelayReq + (s.cfg.n + 1) / 2)), (0x35, s.cfg.maxGain)] ∨
      (∃ j, j ≤ s.cfg.n ∧ j < 16 ∧ sel = 0x10 + j ∧ s.LC_S[j]? = some v) ∨
      ∃ j, j ≤ s.cfg.n ∧ j < 16 ∧ sel = 0x20 + j ∧ s.CC[j]? = some v) →
    ∃ i t, decode s.cfg ⟨BitVec.ofNat 32 (sel * 16 + 9), a, b, x⟩ = .ok i ∧ exec i s = .next t ∧
      t.resp = some ⟨false, v⟩

/-- 42_control.md R166: GET of a register that exists completes and has no side effect. -/
def Obligations.GetHasNoSideEffect : Prop :=
  ∀ (s : State) (reg : Reg), reg.assigned s.cfg = true →
    ∃ t v, exec (.get reg) s = .next t ∧ t.resp = some ⟨false, v⟩ ∧ SameSetup s t ∧ SameAudio s t ∧
      SameStatus s t ∧ SameInputs s t

/-- 10_state.md R34, 60_exceptions.md R202: the bits of the STATUS word that GET answers. -/
def Obligations.StatusWordLayout : Prop :=
  ∀ s : State, ∃ t v, exec (.get .status) s = .next t ∧ t.resp = some ⟨false, v⟩ ∧
    v.getLsbD 0 = s.ERR ∧ v.extractLsb' 1 3 = 0#3 ∧ v.extractLsb' 10 54 = 0#54 ∧
    (v.extractLsb' 4 4).toNat =
      (match s.ECAUSE with
        | none => 0
        | some .reservedOpcode => 1
        | some .reservedBits => 2
        | some .selNotZero => 3
        | some .badSelector => 4
        | some .badSampleRate => 5) ∧
    (v.extractLsb' 8 2).toNat =
      (match s.PHASE with
        | .uninitialized => 0
        | .configured => 1
        | .running => 2
        | .cleared => 3)

/-- 42_control.md R161, 40_datapath.md R117, R100, R101: SET_DELAY clamps its argument, stores it less 1 exactly, and
recomputes the static caches; the split of the stored delay is exact. Nothing else changes. -/
def Obligations.SetDelayStoresClampedDelay : Prop :=
  ∀ (s : State) (a : F64), s.cfg.valid = true →
    ∃ t, exec (.setDelay a) s = .next t ∧ t.resp = some ⟨false, 0#64⟩ ∧ F64.isFinite t.S = true ∧
      (F64.isNaN a = true ∨ F64.lt a s.cfg.minDelayF = true →
        F64.value t.S = ((s.cfg.minDelay : Int) - 1) * (F64.unit : Int)) ∧
      (F64.lt s.cfg.maxDelayF a = true → F64.value t.S = ((s.cfg.maxDelay : Int) - 1) * (F64.unit : Int)) ∧
      (F64.le s.cfg.minDelayF a = true → F64.le a s.cfg.maxDelayF = true →
        F64.value t.S = F64.value a - (F64.unit : Int)) ∧
      ((t.DT_S : Int) + (s.cfg.h : Int)) * (F64.unit : Int) ≤ F64.value t.S ∧
      F64.value t.S < ((t.DT_S : Int) + (s.cfg.h : Int) + 1) * (F64.unit : Int) ∧
      (∃ ν p, F64.isFinite p = true ∧ F64.value p = F64.value t.S - (t.DT_S : Int) * (F64.unit : Int) ∧
        t.LC_S = staticWeights ν s.cfg.n p) ∧
      (∃ ν, (t.TA0, t.TA1) = toneCoef ν s.G s.B t.S) ∧
      t.G = s.G ∧ t.B = s.B ∧ SameRate s t ∧ SameFixed s t ∧ SameAudio s t ∧ SameStatus s t ∧ SameInputs s t

/-- 42_control.md R162, 40_datapath.md R117: SET_GAIN clamps to `[-MAX_GAIN, MAX_GAIN]`, a NaN is `+0.0`, and the tone
coefficients follow. Nothing else changes. -/
def Obligations.SetGainClampsAndRetunes : Prop :=
  ∀ (s : State) (g : F64), s.cfg.valid = true →
    ∃ t, exec (.setGain g) s = .next t ∧ t.resp = some ⟨false, 0#64⟩ ∧
      (F64.isNaN g = true → t.G = 0#64) ∧
      (F64.lt g (F64.neg s.cfg.maxGain) = true → t.G = F64.neg s.cfg.maxGain) ∧
      (F64.lt s.cfg.maxGain g = true → t.G = s.cfg.maxGain) ∧
      (F64.le (F64.neg s.cfg.maxGain) g = true → F64.le g s.cfg.maxGain = true → t.G = g) ∧
      (∃ ν, (t.TA0, t.TA1) = toneCoef ν t.G s.B s.S) ∧
      SameDelay s t ∧ t.B = s.B ∧ SameRate s t ∧ SameFixed s t ∧ SameAudio s t ∧ SameStatus s t ∧ SameInputs s t

/-- 42_control.md R163, 40_datapath.md R117: SET_BRIGHT clamps to `[0, MAX_GAIN]`, a NaN is `+0.0`, an in-range `-0.0`
is kept, and the tone coefficients follow. Nothing else changes. -/
def Obligations.SetBrightClampsAndRetunes : Prop :=
  ∀ (s : State) (b : F64), s.cfg.valid = true →
    ∃ t, exec (.setBright b) s = .next t ∧ t.resp = some ⟨false, 0#64⟩ ∧
      (F64.isNaN b = true → t.B = 0#64) ∧
      (F64.lt b 0#64 = true → t.B = 0#64) ∧
      (F64.lt s.cfg.maxGain b = true → t.B = s.cfg.maxGain) ∧
      (F64.le 0#64 b = true → F64.le b s.cfg.maxGain = true → t.B = b) ∧
      (b = 0x8000000000000000#64 → t.B = b) ∧
      (∃ ν, (t.TA0, t.TA1) = toneCoef ν s.G t.B s.S) ∧
      SameDelay s t ∧ t.G = s.G ∧ SameRate s t ∧ SameFixed s t ∧ SameAudio s t ∧ SameStatus s t ∧ SameInputs s t

/-- 42_control.md R164, 40_datapath.md R112: SET_SR with a finite rate of at least 1.0 stores it and its DC-blocker
coefficients, each operation of R112 rounded by itself, and keeps the DC history; nothing else changes. -/
def Obligations.SetSampleRateStoresCoefficients : Prop :=
  ∀ (s : State) (r : F64), F64.isFinite r = true → F64.le F64.one r = true →
    ∃ t, exec (.setSr r) s = .next t ∧ t.resp = some ⟨false, 0#64⟩ ∧ t.SR = r ∧
      (∃ ν₁ ν₂ ν₃ ν₄ ν₅ ν₆ ν₇ hc hh,
        hc = F64.div ν₁ (F64.mul ν₂ 0x401921FB54442D18#64 0x4034000000000000#64) r ∧
        hh = F64.div ν₃ hc 0x4000000000000000#64 ∧
        t.DA0 = F64.div ν₄ 0x3FF0000000000000#64 (F64.add ν₅ 0x3FF0000000000000#64 hh) ∧
        t.DA1 = F64.neg t.DA0 ∧
        t.DB1 = F64.mul ν₆ t.DA0 (F64.sub ν₇ 0x3FF0000000000000#64 hh)) ∧
      SameDelay s t ∧ t.G = s.G ∧ t.B = s.B ∧ SameTone s t ∧ SameFixed s t ∧ SameAudio s t ∧ SameStatus s t ∧
      SameInputs s t

/-- 42_control.md R165, 70_reset_and_hazards.md R240: CLEAR zeroes the buffer, the cursor and the histories, enters
Cleared, and keeps every parameter, every coefficient, ERR and ECAUSE. -/
def Obligations.ClearZeroesAudioState : Prop :=
  ∀ s : State, ∃ t, exec .clear s = .next t ∧ t.resp = some ⟨false, 0#64⟩ ∧ (∀ i, t.BUF.read i = 0#64) ∧
    t.CURSOR = 0 ∧ t.TX1 = 0#64 ∧ t.TX2 = 0#64 ∧ t.DU1 = 0#64 ∧ t.DY1 = 0#64 ∧ t.PHASE = .cleared ∧
    SameSetup s t ∧ t.ERR = s.ERR ∧ t.ECAUSE = s.ECAUSE ∧ SameInputs s t

/-- 42_control.md R165: after CLEAR, a STEP answers the same sample and leaves the same audio state in two instances
with the same parameters, whatever their histories were. The two start with the same number of the free NaN bits
(entry 3). -/
def Obligations.ClearForgetsTheHistory : Prop :=
  ∀ (s u : State) (i : Instr), SameSetup s u → s.freeSeq = u.freeSeq → isStep i = true →
    ∃ s₁ s₂ u₁ u₂, exec .clear s = .next s₁ ∧ exec i s₁ = .next s₂ ∧
      exec .clear u = .next u₁ ∧ exec i u₁ = .next u₂ ∧ s₂.resp = u₂.resp ∧ SameAudio s₂ u₂

/-- 42_control.md R167: after any sequence of SET_DELAY, SET_GAIN and SET_BRIGHT the static state depends only on the
last argument of each of the three (the coefficients up to the open bits of a NaN, 00_scope.md R9). The invariant rules
out a stored delay that is a NaN, which no run reaches. -/
def Obligations.SetterOrderDoesNotMatter : Prop :=
  ∀ (s : State) (is js : List Instr), s.Inv →
    is.all isParamSetter = true → js.all isParamSetter = true →
    lastDelay is = lastDelay js → lastGain is = lastGain js → lastBright is = lastBright js →
    ∃ rs qs t u, runCommands is s = some (rs, t) ∧ runCommands js s = some (qs, u) ∧
      t.S = u.S ∧ t.G = u.G ∧ t.B = u.B ∧ t.DT_S = u.DT_S ∧ sameList t.LC_S u.LC_S ∧
      F64.same t.TA0 u.TA0 = true ∧ F64.same t.TA1 u.TA1 = true

/-! ## Processing commands -/

/-- 41_processing.md R141, 40_datapath.md R114: STEP_A runs one sample with the static caches and completes for every
excitation. -/
def Obligations.StepAIsOneSample : Prop :=
  ∀ (s : State) (e : F64), s.CURSOR < s.cfg.len → s.BUF.wf →
    ∃ t y, exec (.stepA e) s = .next t ∧ OneSample s t e s.LC_S s.DT_S (s.TA0, s.TA1) y

/-- 41_processing.md R142: STEP_B runs one sample with the dynamic weights and tone coefficients of the clamped
per-sample delay and the gain of SET_GAIN, and writes no parameter or static cache. -/
def Obligations.StepBIsOneSample : Prop :=
  ∀ (s : State) (e d : F64), s.CURSOR < s.cfg.len → s.BUF.wf →
    ∃ t y sd sp w a, exec (.stepB e d) s = .next t ∧
      (∃ ν, sd = F64.sub ν (clampP d s.cfg.minDelayF s.cfg.maxDelayF s.cfg.minDelayF) F64.one) ∧
      (∃ ν, sp = split ν s.cfg sd) ∧ (∃ ν, w = dynamicWeights ν s.cfg.n s.CC sp.p) ∧
      (∃ ν, a = toneCoef ν s.G s.B sd) ∧ OneSample s t e w sp.dt a y

/-- 41_processing.md R143: STEP_C is STEP_B with the clamped per-sample gain in place of G. -/
def Obligations.StepCIsOneSample : Prop :=
  ∀ (s : State) (e g d : F64), s.CURSOR < s.cfg.len → s.BUF.wf →
    ∃ t y gg sd sp w a, exec (.stepC e g d) s = .next t ∧
      gg = clampP g (F64.neg s.cfg.maxGain) s.cfg.maxGain 0#64 ∧
      (∃ ν, sd = F64.sub ν (clampP d s.cfg.minDelayF s.cfg.maxDelayF s.cfg.minDelayF) F64.one) ∧
      (∃ ν, sp = split ν s.cfg sd) ∧ (∃ ν, w = dynamicWeights ν s.cfg.n s.CC sp.p) ∧
      (∃ ν, a = toneCoef ν gg s.B sd) ∧ OneSample s t e w sp.dt a y

/-- 20_memory.md R62, R63, 40_datapath.md R116: after a STEP the sample it wrote stands one position behind the cursor,
and every sample is one position further behind; offset 0 aliases offset L. -/
def Obligations.StepShiftsTheDelayLine : Prop :=
  ∀ (s : State) (i : Instr), s.CURSOR < s.cfg.len → s.BUF.wf → isStep i = true →
    readAt s 0 = readAt s s.cfg.len ∧
    ∃ t, exec i s = .next t ∧ readAt t 1 = t.DY1 ∧
      ∀ k, 1 ≤ k → k < s.cfg.len → readAt t (k + 1) = readAt s k

/-- 20_memory.md R66, 40_datapath.md R100, R101: for every stored delay in range, every tap offset is in `[1, L-1]`, the
split is exact, and the evaluation point plus the offset of tap 0 is the delay. -/
def Obligations.TapOffsetsStayInTheBuffer : Prop :=
  ∀ (c : Config) (ν : NanSeed) (s : F64), c.valid = true →
    F64.le (F64.ofNat (c.minDelay - 1)) s = true → F64.le s (F64.ofNat (c.maxDelay - 1)) = true →
    (∀ j, j ≤ c.n → 1 ≤ (split ν c s).dt + j ∧ (split ν c s).dt + j ≤ c.len - 1) ∧
    F64.isFinite (split ν c s).p = true ∧
    F64.value (split ν c s).p + ((split ν c s).dt : Int) * (F64.unit : Int) = F64.value s ∧
    (c.h : Int) * (F64.unit : Int) ≤ F64.value (split ν c s).p ∧
    F64.value (split ν c s).p < ((c.h : Int) + 1) * (F64.unit : Int)

/-- 60_exceptions.md R214, 70_reset_and_hazards.md R239: a NaN excitation makes the sum, the output, the written word and
the DC history NaN; a NaN in a history register makes the output NaN; and a NaN in a word that a tap of the STEP reads
makes the tone history and the output NaN. -/
def Obligations.NanRecirculates : Prop :=
  ∀ (s : State) (i : Instr), s.CURSOR < s.cfg.len → s.BUF.wf → isStep i = true →
    ∃ t y, exec i s = .next t ∧ t.resp = some ⟨false, y⟩ ∧ t.DY1 = y ∧ t.BUF.read s.CURSOR = y ∧
      ((F64.isNaN s.TX1 = true ∨ F64.isNaN s.TX2 = true ∨ F64.isNaN s.DU1 = true ∨ F64.isNaN s.DY1 = true) →
        F64.isNaN y = true) ∧
      (∀ e g d, (i = .stepA e ∨ i = .stepB e d ∨ i = .stepC e g d) → F64.isNaN e = true →
        F64.isNaN y = true ∧ F64.isNaN t.DU1 = true) ∧
      (∀ e j, i = .stepA e → j < s.LC_S.length → F64.isNaN (readAt s (s.DT_S + j)) = true →
        F64.isNaN t.TX1 = true ∧ F64.isNaN y = true) ∧
      ∀ e g d j ν, (i = .stepB e d ∨ i = .stepC e g d) → j ≤ s.cfg.n →
        F64.isNaN (readAt s ((split ν s.cfg (delayArg ν s.cfg d)).dt + j)) = true →
        F64.isNaN t.TX1 = true ∧ F64.isNaN y = true

/-- 40_datapath.md R115: from a silent state, a zero excitation gives a zero output and a silent state, for any finite
weights and coefficients. `oneSample` is the sample of all three modes (StepAIsOneSample and its siblings). -/
def Obligations.SilenceIsPreserved : Prop :=
  ∀ (s : State) (ν : NanSeed) (e : F64) (w : List F64) (dt : Nat) (a : F64 × F64),
    s.CURSOR < s.cfg.len → s.BUF.wf → Silent s → F64.isZero e = true →
    (∀ x ∈ w, F64.isFinite x = true) → F64.isFinite a.1 = true → F64.isFinite a.2 = true →
    F64.isFinite s.DA0 = true → F64.isFinite s.DA1 = true → F64.isFinite s.DB1 = true →
    ∃ t y, oneSample ν e w dt a s = .next t ∧ t.resp = some ⟨false, y⟩ ∧ F64.isZero y = true ∧ Silent t

/-- 41_processing.md R145: STEP_C with `(g, d)` and STEP_A after SET_GAIN `g` and SET_DELAY `d` give the same output and
audio state, up to the open bits of a NaN, where the static and the dynamic weights agree. -/
def Obligations.ModesAgreeWhereWeightsAgree : Prop :=
  ∀ (s : State) (e g d : F64), s.Inv →
    (∃ ν₁ ν₂ ν₃ ν₄, sameList
      (staticWeights ν₁ s.cfg.n (split ν₂ s.cfg (delayArg ν₃ s.cfg d)).p)
      (dynamicWeights ν₄ s.cfg.n s.CC (split ν₂ s.cfg (delayArg ν₃ s.cfg d)).p)) →
    ∃ r₁ r₂ ra rc t u, runCommands [.setGain g, .setDelay d, .stepA e] s = some ([r₁, r₂, ra], t) ∧
      runCommands [.stepC e g d] s = some ([rc], u) ∧
      r₁.rerr = false ∧ r₂.rerr = false ∧ ra.rerr = false ∧ rc.rerr = false ∧
      F64.same ra.rdata rc.rdata = true ∧ t.CURSOR = u.CURSOR ∧
      F64.same t.TX1 u.TX1 = true ∧ t.TX2 = u.TX2 ∧ F64.same t.DU1 u.DU1 = true ∧ F64.same t.DY1 u.DY1 = true ∧
      ∀ k, F64.same (t.BUF.read k) (u.BUF.read k) = true

/-- 41_processing.md R144, 30_encoding.md R90: `processBlock` is the sequence of its STEP commands: its last state is
theirs and its outputs are the RDATA of their responses, all accepted. It completes with one output per sample, moves
the cursor by the block length, and writes no parameter. -/
def Obligations.BlockIsItsSteps : Prop :=
  ∀ (s : State) (n : Nat) (e : List F64) (g d : Option (List F64)) (is : List Instr), s.Inv →
    (Pseudo.process n e g d).expand = some is →
    ∃ rs ys t, runCommands is s = some (rs, t) ∧ processBlock n e g d s = some (ys, t) ∧
      ys = rs.map (fun r => r.rdata) ∧ (∀ r ∈ rs, r.rerr = false) ∧ ys.length = n ∧
      t.CURSOR = (s.CURSOR + n) % s.cfg.len ∧ SameSetup s t ∧ t.inbox = s.inbox ∧ is.all isStep = true

/-- 30_encoding.md R90: what each block pseudo-instruction expands to, command by command, and how PROCESS chooses the
mode. -/
def Obligations.PseudoInstructionsExpand : Prop :=
  (∀ (n : Nat) (e : List F64), n ≤ e.length → ∃ is, (Pseudo.blockA n e).expand = some is ∧ is.length = n ∧
    ∀ k x, k < n → e[k]? = some x → is[k]? = some (.stepA x)) ∧
  (∀ (n : Nat) (e d : List F64), n ≤ e.length → n ≤ d.length →
    ∃ is, (Pseudo.blockB n e d).expand = some is ∧ is.length = n ∧
      ∀ k x z, k < n → e[k]? = some x → d[k]? = some z → is[k]? = some (.stepB x z)) ∧
  (∀ (n : Nat) (e g d : List F64), n ≤ e.length → n ≤ g.length → n ≤ d.length →
    ∃ is, (Pseudo.blockC n e g d).expand = some is ∧ is.length = n ∧
      ∀ k x y z, k < n → e[k]? = some x → g[k]? = some y → d[k]? = some z → is[k]? = some (.stepC x y z)) ∧
  (∀ (n : Nat) (e g d : List F64),
    (Pseudo.process n e none none).expand = (Pseudo.blockA n e).expand ∧
    (Pseudo.process n e none (some d)).expand = (Pseudo.blockB n e d).expand ∧
    (Pseudo.process n e (some g) (some d)).expand = (Pseudo.blockC n e g d).expand ∧
    (Pseudo.process n e (some g) none).expand = none) ∧
  ∀ r a g b : F64, (Pseudo.config r a g b).expand = some [.setSr r, .setDelay a, .setGain g, .setBright b]

/-! ## Whole-machine rules -/

/-- 42_control.md R168, 10_state.md R21: no step but a STEP, a CLEAR or a reset writes the buffer, the cursor or a
history register. -/
def Obligations.OnlyStepClearAndResetWriteAudio : Prop :=
  ∀ s t : State, step s = .next t →
    (∀ f rest, s.inbox ≠ .reset f :: rest) →
    (∀ tr rest i, s.inbox = .command tr :: rest → decode s.cfg tr = .ok i → isStep i = false ∧ i ≠ .clear) →
    SameAudio s t

/-- 10_state.md R23 to R31, R39, 70_reset_and_hazards.md R237: each parameter and cache is written by its own setters
alone, the configuration and CC by no command. -/
def Obligations.ParametersHaveTheirOwnWriters : Prop :=
  ∀ (s t : State) (tr : Transaction) (rest : List Input), s.inbox = .command tr :: rest → step s = .next t →
    SameFixed s t ∧
    ((∀ a, decode s.cfg tr ≠ .ok (.setDelay a)) → SameDelay s t) ∧
    ((∀ g, decode s.cfg tr ≠ .ok (.setGain g)) → t.G = s.G) ∧
    ((∀ b, decode s.cfg tr ≠ .ok (.setBright b)) → t.B = s.B) ∧
    ((∀ r, decode s.cfg tr ≠ .ok (.setSr r)) → SameRate s t) ∧
    ((∀ a, decode s.cfg tr ≠ .ok (.setDelay a) ∧ decode s.cfg tr ≠ .ok (.setGain a) ∧
      decode s.cfg tr ≠ .ok (.setBright a)) → SameTone s t)

/-- 10_state.md R34, 60_exceptions.md R205: ERR stays set until reset, and ECAUSE changes only with a rejection. -/
def Obligations.ErrIsStickyUntilReset : Prop :=
  ∀ s t : State, step s = .next t → (∀ f rest, s.inbox ≠ .reset f :: rest) →
    (s.ERR = true → t.ERR = true) ∧
    ((t.ERR = s.ERR ∧ t.ECAUSE = s.ECAUSE) ∨
      (t.ERR = true ∧ t.ECAUSE ≠ none ∧ t.resp = some ⟨true, 0#64⟩))

/-- 70_reset_and_hazards.md R232, 10_state.md R33: the lifecycle, for every input. -/
def Obligations.LifecycleFollowsTheInputs : Prop :=
  ∀ s t : State, step s = .next t →
    (s.inbox = [] → t.PHASE = s.PHASE) ∧
    (∀ f rest, s.inbox = .reset f :: rest → t.PHASE = .configured) ∧
    ∀ tr rest, s.inbox = .command tr :: rest →
      (∀ c, decode s.cfg tr = .error c → t.PHASE = s.PHASE) ∧
      ∀ i, decode s.cfg tr = .ok i →
        t.PHASE = if isStep i then .running else if i = .clear then .cleared else s.PHASE

/-! ## Arithmetic -/

/-- 00_scope.md R9: the rounding is correct. Of all finite magnitudes the one it answers is nearest to `n / d` units;
where two are equally near the answer is the even one; and it overflows exactly from half a unit in the last place above
the largest finite value (IEEE 754's rule, PRESUMED, entry 12). -/
def Obligations.RoundingIsNearestEven : Prop :=
  ∀ n d : Nat, 0 < d →
    (F64.roundMag n d = F64.infMag ↔ (2 ^ 54 - 1) * 2 ^ 2044 * d ≤ n) ∧
    (F64.roundMag n d < F64.infMag → ∀ m, m < F64.infMag →
      |(F64.scaledMag (F64.roundMag n d) : Int) * d - n| ≤ |(F64.scaledMag m : Int) * d - n| ∧
      (m ≠ F64.roundMag n d →
        |(F64.scaledMag (F64.roundMag n d) : Int) * d - n| = |(F64.scaledMag m : Int) * d - n| →
        F64.roundMag n d % 2 = 0))

/-- 00_scope.md R9 (entry 12): a value that is representable is not changed by rounding, subnormals included. -/
def Obligations.RoundingKeepsRepresentableValues : Prop :=
  ∀ m d : Nat, m < F64.infMag → 0 < d → F64.roundMag (F64.scaledMag m * d) d = m

/-- 00_scope.md R9 (entry 12): each operation on finite operands, with a finite result, gives the binary64 nearest to the exact
result: no other finite value is nearer. Values are in units of 2^-1074. When the result is finite is
OperationsOverflowAtTheBound. -/
def Obligations.OperationsRoundToNearest : Prop :=
  ∀ (ν : NanSeed) (a b x : F64), F64.isFinite a = true → F64.isFinite b = true → F64.isFinite x = true →
    (F64.isFinite (F64.add ν a b) = true →
      |F64.value (F64.add ν a b) - (F64.value a + F64.value b)| ≤ |F64.value x - (F64.value a + F64.value b)|) ∧
    (F64.isFinite (F64.sub ν a b) = true →
      |F64.value (F64.sub ν a b) - (F64.value a - F64.value b)| ≤ |F64.value x - (F64.value a - F64.value b)|) ∧
    (F64.isFinite (F64.mul ν a b) = true →
      |F64.value (F64.mul ν a b) * F64.unit - F64.value a * F64.value b| ≤
        |F64.value x * F64.unit - F64.value a * F64.value b|) ∧
    (F64.isZero b = false → F64.isFinite (F64.div ν a b) = true →
      |F64.value (F64.div ν a b) * F64.value b - F64.value a * F64.unit| ≤
        |F64.value x * F64.value b - F64.value a * F64.unit|)

/-- 00_scope.md R9 (the rule of IEEE 754, PRESUMED, entry 12): on finite operands a result is finite exactly when the
exact result lies below the bound, and otherwise it is the infinity of the exact result's sign. -/
def Obligations.OperationsOverflowAtTheBound : Prop :=
  ∀ (ν : NanSeed) (a b : F64), F64.isFinite a = true → F64.isFinite b = true →
    (if |F64.value a + F64.value b| < F64.overflowAt then F64.isFinite (F64.add ν a b) = true
      else F64.add ν a b = F64.inf (decide (F64.value a + F64.value b < 0))) ∧
    (if |F64.value a - F64.value b| < F64.overflowAt then F64.isFinite (F64.sub ν a b) = true
      else F64.sub ν a b = F64.inf (decide (F64.value a - F64.value b < 0))) ∧
    (if |F64.value a * F64.value b| < F64.overflowAt * F64.unit then F64.isFinite (F64.mul ν a b) = true
      else F64.mul ν a b = F64.inf (F64.sign a != F64.sign b)) ∧
    (F64.isZero b = false →
      if |F64.value a| * F64.unit < F64.overflowAt * |F64.value b| then F64.isFinite (F64.div ν a b) = true
      else F64.div ν a b = F64.inf (F64.sign a != F64.sign b))

/-- 00_scope.md R9 (the rule of IEEE 754, PRESUMED, entry 12): when a result of finite operands is a zero, and its sign.
A sum or a difference is a zero only when exact; a product or a quotient also when it is at most half the smallest
subnormal. -/
def Obligations.ZeroResultsAndTheirSigns : Prop :=
  ∀ (ν : NanSeed) (a b : F64), F64.isFinite a = true → F64.isFinite b = true →
    (if F64.value a + F64.value b = 0 then F64.add ν a b = F64.zero (F64.sign a && F64.sign b)
      else F64.isZero (F64.add ν a b) = false) ∧
    (if F64.value a - F64.value b = 0 then F64.sub ν a b = F64.zero (F64.sign a && !F64.sign b)
      else F64.isZero (F64.sub ν a b) = false) ∧
    (if 2 * |F64.value a * F64.value b| ≤ F64.unit then F64.mul ν a b = F64.zero (F64.sign a != F64.sign b)
      else F64.isZero (F64.mul ν a b) = false) ∧
    (F64.isZero b = false →
      if 2 * (|F64.value a| * F64.unit) ≤ |F64.value b| then F64.div ν a b = F64.zero (F64.sign a != F64.sign b)
      else F64.isZero (F64.div ν a b) = false)

/-- 00_scope.md R9 (the rule of IEEE 754, PRESUMED, entry 12): the operations on NaNs and infinities, and the division by
a zero. An infinite pattern is `inf p` for its sign `p`. -/
def Obligations.NonFiniteOperands : Prop :=
  ∀ (ν : NanSeed) (a b : F64) (p q : Bool),
    (F64.isInf a = true → a = F64.inf (F64.sign a)) ∧
    (F64.isNaN a = true ∨ F64.isNaN b = true →
      F64.isNaN (F64.add ν a b) = true ∧ F64.isNaN (F64.sub ν a b) = true ∧
      F64.isNaN (F64.mul ν a b) = true ∧ F64.isNaN (F64.div ν a b) = true) ∧
    F64.add ν (F64.inf p) (F64.inf p) = F64.inf p ∧ F64.isNaN (F64.add ν (F64.inf p) (F64.inf !p)) = true ∧
    F64.sub ν (F64.inf p) (F64.inf !p) = F64.inf p ∧ F64.isNaN (F64.sub ν (F64.inf p) (F64.inf p)) = true ∧
    F64.mul ν (F64.inf p) (F64.inf q) = F64.inf (p != q) ∧
    F64.isNaN (F64.div ν (F64.inf p) (F64.inf q)) = true ∧
    (F64.isFinite b = true →
      F64.add ν (F64.inf p) b = F64.inf p ∧ F64.add ν b (F64.inf p) = F64.inf p ∧
      F64.sub ν (F64.inf p) b = F64.inf p ∧ F64.sub ν b (F64.inf p) = F64.inf !p ∧
      F64.div ν (F64.inf p) b = F64.inf (p != F64.sign b) ∧
      F64.div ν b (F64.inf p) = F64.zero (F64.sign b != p) ∧
      (F64.isZero b = false →
        F64.mul ν (F64.inf p) b = F64.inf (p != F64.sign b) ∧ F64.mul ν b (F64.inf p) = F64.inf (F64.sign b != p))) ∧
    (F64.isZero b = true →
      F64.isNaN (F64.mul ν (F64.inf p) b) = true ∧ F64.isNaN (F64.mul ν b (F64.inf p)) = true ∧
      (F64.isZero a = true → F64.isNaN (F64.div ν a b) = true) ∧
      (F64.isFinite a = true → F64.isZero a = false → F64.div ν a b = F64.inf (F64.sign a != F64.sign b)))

/-- 00_scope.md R9 (entry 12): the comparisons of finite patterns are the comparisons of their exact values, so the zeros are
equal; any comparison with a NaN is false. -/
def Obligations.ComparisonsCompareValues : Prop :=
  (∀ a b : F64, F64.isFinite a = true → F64.isFinite b = true →
    (F64.lt a b = true ↔ F64.value a < F64.value b) ∧ (F64.le a b = true ↔ F64.value a ≤ F64.value b)) ∧
  ∀ a b : F64, (F64.isNaN a = true ∨ F64.isNaN b = true) → F64.lt a b = false ∧ F64.le a b = false

/-- 00_scope.md R11: the clamping primitive, case by case; an infinity saturates, an in-range `-0.0` is kept, a value
below a bound `+0.0` becomes `+0.0`. -/
def Obligations.ClampingPrimitive : Prop :=
  ∀ v lo hi dflt : F64, F64.le lo dflt = true → F64.le dflt hi = true →
    (F64.isNaN v = true → clampP v lo hi dflt = dflt) ∧
    (F64.lt v lo = true → clampP v lo hi dflt = lo) ∧
    (F64.lt hi v = true → clampP v lo hi dflt = hi) ∧
    (F64.le lo v = true → F64.le v hi = true → clampP v lo hi dflt = v) ∧
    (F64.isFinite lo = true → F64.isFinite hi = true →
      clampP (F64.inf false) lo hi dflt = hi ∧ clampP (F64.inf true) lo hi dflt = lo)

/-- 40_datapath.md R108: the stability clamp fires exactly on an `a0` below zero, and then the filter is the flat gain
`g`; `-0.0` is not clamped; the coefficients the core uses never have an `a0` below zero. -/
def Obligations.StabilityClamp : Prop :=
  (∀ a0 a1 g : F64, F64.lt a0 0#64 = true → clampTone a0 a1 g = (0#64, g)) ∧
  (∀ a0 a1 g : F64, F64.lt a0 0#64 = false → clampTone a0 a1 g = (a0, a1)) ∧
  (∀ a1 g : F64, clampTone 0x8000000000000000#64 a1 g = (0x8000000000000000#64, a1)) ∧
  ∀ (ν : NanSeed) (g b s : F64), F64.lt (toneCoef ν g b s).1 0#64 = false

/-- 40_datapath.md R102, R103: the examples of the rules for N = 3: the weights at `P = 1.5` and `P = 1.0`, and the
constant-factor cache. -/
def Obligations.WeightExamples : Prop :=
  staticWeights ⟨0, []⟩ 3 0x3FF8000000000000#64 =
    [0xBFB0000000000000#64, 0x3FE2000000000000#64, 0x3FE2000000000000#64, 0xBFB0000000000000#64] ∧
  staticWeights ⟨0, []⟩ 3 0x3FF0000000000000#64 =
    [0x8000000000000000#64, 0x3FF0000000000000#64, 0#64, 0x8000000000000000#64] ∧
  ccInit ⟨0, []⟩ 3 =
    [0xBFC5555555555555#64, 0x3FE0000000000000#64, 0xBFE0000000000000#64, 0x3FC5555555555555#64]
end

