-- ==== Sys2Proof/Laws/Float.lean ====
section
/-! SUPPORT. The small lemmas of the binary64 operations: fields of a packed pattern, when a result is a NaN, and
that every operation respects equality up to the open bits of a NaN. -/

namespace Sys2Proof.F64

/-! ## Fields -/

theorem mag_lt (x : F64) : mag x < 2 ^ 63 := Nat.mod_lt _ (by decide)

theorem infMag_lt : infMag < 2 ^ 63 := by decide

theorem pack_toNat (b : Bool) {m : Nat} (h : m < 2 ^ 63) :
    (pack b m).toNat = m + if b then 2 ^ 63 else 0 := by
  unfold pack
  rw [BitVec.toNat_ofNat, Nat.mod_eq_of_lt]
  cases b <;> simp <;> omega

@[simp] theorem mag_pack (b : Bool) {m : Nat} (h : m < 2 ^ 63) : mag (pack b m) = m := by
  unfold mag
  rw [pack_toNat b h]
  cases b
  · simpa using Nat.mod_eq_of_lt h
  · simp only [if_true]
    omega

@[simp] theorem sign_pack (b : Bool) {m : Nat} (h : m < 2 ^ 63) : sign (pack b m) = b := by
  unfold sign
  rw [pack_toNat b h]
  cases b <;> simp ; omega

/-- A pattern is its sign and its magnitude. -/
theorem pack_sign_mag (x : F64) : pack (sign x) (mag x) = x := by
  apply BitVec.eq_of_toNat_eq
  rw [pack_toNat _ (mag_lt x)]
  unfold sign mag
  have := x.isLt
  by_cases h : 2 ^ 63 ≤ x.toNat
  · simp only [h, decide_true, if_true]
    omega
  · simp only [h, decide_false]
    simp
    omega

theorem ext_sign_mag {a b : F64} (hs : sign a = sign b) (hm : mag a = mag b) : a = b := by
  rw [← pack_sign_mag a, ← pack_sign_mag b, hs, hm]

/-! ## NaN or not -/

@[simp] theorem isNaN_nan (ν : NanSeed) : isNaN (nan ν) = true := by
  unfold nan isNaN
  have hb : (Config.freeNaN ν).toNat % 2 ^ 52 < 2 ^ 52 := Nat.mod_lt _ (by decide)
  simp only [decide_eq_true_eq]
  rw [mag_pack]
  · split <;> omega
  · unfold infMag
    split <;> omega

theorem roundMag_le (n d : Nat) : roundMag n d ≤ infMag := by
  unfold roundMag
  exact Nat.min_le_left _ _

theorem roundMag_lt (n d : Nat) : roundMag n d < 2 ^ 63 := lt_of_le_of_lt (roundMag_le n d) infMag_lt

@[simp] theorem mag_ofRatio (b : Bool) (n d : Nat) : mag (ofRatio b n d) = roundMag n d :=
  mag_pack b (roundMag_lt n d)

@[simp] theorem sign_ofRatio (b : Bool) (n d : Nat) : sign (ofRatio b n d) = b :=
  sign_pack b (roundMag_lt n d)

/-- A rounded value is a number or an infinity, never a NaN. -/
@[simp] theorem isNaN_ofRatio (b : Bool) (n d : Nat) : isNaN (ofRatio b n d) = false := by
  unfold isNaN
  simpa using roundMag_le n d

@[simp] theorem isNaN_inf (b : Bool) : isNaN (inf b) = false := by
  unfold isNaN inf
  simp [mag_pack b infMag_lt]

@[simp] theorem isNaN_zero (b : Bool) : isNaN (zero b) = false := by
  cases b <;> decide

@[simp] theorem isNaN_ofInt (k : Int) : isNaN (ofInt k) = false := isNaN_ofRatio _ _ _

@[simp] theorem isNaN_ofNat (k : Nat) : isNaN (ofNat k) = false := isNaN_ofInt _

theorem mag_neg (x : F64) : mag (neg x) = mag x := by
  have h : ∀ y : BitVec 64, (y ^^^ 0x8000000000000000#64).toNat % 2 ^ 63 = y.toNat % 2 ^ 63 := by
    intro y
    rw [BitVec.toNat_xor, ← Nat.and_two_pow_sub_one_eq_mod, ← Nat.and_two_pow_sub_one_eq_mod,
      Nat.and_xor_distrib_right]
    have : (0x8000000000000000#64).toNat &&& (2 ^ 63 - 1) = 0 := by decide +kernel
    rw [this, Nat.xor_zero]
  exact h x

@[simp] theorem sign_neg (x : F64) : sign (neg x) = !sign x := by
  have h (y : F64) : sign y = y.msb := by rw [BitVec.msb_eq_decide]; rfl
  rw [h, h]
  show (x ^^^ 0x8000000000000000#64).msb = _
  rw [BitVec.msb_xor, show (0x8000000000000000#64).msb = true by decide, Bool.xor_true]

@[simp] theorem mag_inf (b : Bool) : mag (inf b) = infMag := mag_pack b infMag_lt
@[simp] theorem sign_inf (b : Bool) : sign (inf b) = b := sign_pack b infMag_lt
@[simp] theorem mag_zero (b : Bool) : mag (zero b) = 0 := mag_pack b (by decide)
@[simp] theorem sign_zero (b : Bool) : sign (zero b) = b := sign_pack b (by decide)

theorem neg_inf_pattern (b : Bool) : neg (inf b) = inf !b := ext_sign_mag (by simp) (by simp [mag_neg])

@[simp] theorem value_neg (x : F64) : value (neg x) = -value x := by
  simp only [value, sign_neg, scaled, mag_neg]
  cases sign x <;> simp

/-- A finite pattern is neither a NaN nor an infinity. -/
theorem isFinite_iff {x : F64} : isFinite x = true ↔ isNaN x = false ∧ isInf x = false := by
  simp only [isFinite, isNaN, isInf, decide_eq_true_eq, decide_eq_false_iff_not]
  omega

@[simp] theorem isNaN_neg (x : F64) : isNaN (neg x) = isNaN x := by
  unfold isNaN
  rw [mag_neg]

/-- A NaN operand makes a NaN result. -/
theorem isNaN_add_of_left (ν : NanSeed) {a : F64} (b : F64) (h : isNaN a = true) : isNaN (add ν a b) = true := by
  simp [add, h]

theorem isNaN_add_of_right (ν : NanSeed) (a : F64) {b : F64} (h : isNaN b = true) : isNaN (add ν a b) = true := by
  simp [add, h]

theorem isNaN_mul_of_left (ν : NanSeed) {a : F64} (b : F64) (h : isNaN a = true) : isNaN (mul ν a b) = true := by
  simp [mul, h]

theorem isNaN_mul_of_right (ν : NanSeed) (a : F64) {b : F64} (h : isNaN b = true) : isNaN (mul ν a b) = true := by
  simp [mul, h]

theorem isNaN_div_of_left (ν : NanSeed) {a : F64} (b : F64) (h : isNaN a = true) : isNaN (div ν a b) = true := by
  simp [div, h]

theorem isNaN_div_of_right (ν : NanSeed) (a : F64) {b : F64} (h : isNaN b = true) : isNaN (div ν a b) = true := by
  simp [div, h]

/-! ## Equality up to the open bits of a NaN -/

theorem same_iff {a b : F64} : same a b = true ↔ a = b ∨ isNaN a = true ∧ isNaN b = true := by
  simp [same]

@[simp] theorem same_refl (a : F64) : same a a = true := by simp [same]

theorem same_nan (ν μ : NanSeed) : same (nan ν) (nan μ) = true := by simp [same]

theorem same_isNaN {a b : F64} (h : same a b = true) : isNaN a = isNaN b := by
  rcases same_iff.mp h with rfl | ⟨ha, hb⟩
  · rfl
  · rw [ha, hb]

/-- Operations that differ in the seed, on operands equal up to NaN bits, give results equal up to NaN bits. -/
theorem add_same (ν μ : NanSeed) {a a' b b' : F64} (ha : same a a' = true) (hb : same b b' = true) :
    same (add ν a b) (add μ a' b') = true := by
  rcases same_iff.mp ha with rfl | ⟨h1, h2⟩
  · rcases same_iff.mp hb with rfl | ⟨h3, h4⟩
    · unfold add
      split_ifs <;> first | exact same_refl _ | exact same_nan _ _
    · simp [add, h3, h4, same_nan]
  · simp [add, h1, h2, same_nan]

theorem neg_same {a a' : F64} (h : same a a' = true) : same (neg a) (neg a') = true := by
  rcases same_iff.mp h with rfl | ⟨h1, h2⟩
  · exact same_refl _
  · simp [same_iff, h1, h2]

theorem sub_same (ν μ : NanSeed) {a a' b b' : F64} (ha : same a a' = true) (hb : same b b' = true) :
    same (sub ν a b) (sub μ a' b') = true := add_same ν μ ha (neg_same hb)

theorem mul_same (ν μ : NanSeed) {a a' b b' : F64} (ha : same a a' = true) (hb : same b b' = true) :
    same (mul ν a b) (mul μ a' b') = true := by
  rcases same_iff.mp ha with rfl | ⟨h1, h2⟩
  · rcases same_iff.mp hb with rfl | ⟨h3, h4⟩
    · unfold mul
      split_ifs <;> first | exact same_refl _ | exact same_nan _ _
    · simp [mul, h3, h4, same_nan]
  · simp [mul, h1, h2, same_nan]

theorem div_same (ν μ : NanSeed) {a a' b b' : F64} (ha : same a a' = true) (hb : same b b' = true) :
    same (div ν a b) (div μ a' b') = true := by
  rcases same_iff.mp ha with rfl | ⟨h1, h2⟩
  · rcases same_iff.mp hb with rfl | ⟨h3, h4⟩
    · unfold div
      split_ifs <;> first | exact same_refl _ | exact same_nan _ _
    · simp [div, h3, h4, same_nan]
  · simp [div, h1, h2, same_nan]

/-! ## Comparisons -/

theorem lt_iff {a b : F64} : lt a b = true ↔ isNaN a = false ∧ isNaN b = false ∧ key a < key b := by
  simp [lt, and_assoc]

theorem le_iff {a b : F64} : le a b = true ↔ isNaN a = false ∧ isNaN b = false ∧ key a ≤ key b := by
  simp [le, and_assoc]

/-- Two numbers are in one order or the other. -/
theorem le_of_not_lt {a b : F64} (ha : isNaN a = false) (hb : isNaN b = false) (h : lt a b = false) :
    le b a = true := by
  rw [le_iff]
  refine ⟨hb, ha, ?_⟩
  by_contra hk
  have : lt a b = true := lt_iff.mpr ⟨ha, hb, by omega⟩
  rw [this] at h
  exact absurd h (by decide)

theorem le_refl_of_not_nan {a : F64} (h : isNaN a = false) : le a a = true := le_iff.mpr ⟨h, h, Int.le_refl _⟩

theorem le_of_lt {a b : F64} (h : lt a b = true) : le a b = true := by
  obtain ⟨ha, hb, hk⟩ := lt_iff.mp h
  exact le_iff.mpr ⟨ha, hb, Int.le_of_lt hk⟩

theorem le_trans {a b c : F64} (h : le a b = true) (h' : le b c = true) : le a c = true := by
  obtain ⟨ha, _, hk⟩ := le_iff.mp h
  obtain ⟨_, hc, hk'⟩ := le_iff.mp h'
  exact le_iff.mpr ⟨ha, hc, Int.le_trans hk hk'⟩

end Sys2Proof.F64

namespace Sys2Proof

/-- What `clampP` answers (00_scope.md R11): a number between the bounds, whatever the input. -/
theorem clampP_between {v lo hi dflt : F64} (h1 : F64.le lo dflt = true) (h2 : F64.le dflt hi = true) :
    F64.le lo (clampP v lo hi dflt) = true ∧ F64.le (clampP v lo hi dflt) hi = true := by
  obtain ⟨nlo, nd, _⟩ := F64.le_iff.mp h1
  obtain ⟨_, nhi, _⟩ := F64.le_iff.mp h2
  have key : ∀ w : F64, F64.isNaN w = false →
      F64.le lo (if F64.lt w lo then lo else if F64.lt hi w then hi else w) = true ∧
        F64.le (if F64.lt w lo then lo else if F64.lt hi w then hi else w) hi = true := by
    intro w nw
    by_cases hlo : F64.lt w lo = true
    · rw [if_pos hlo]
      exact ⟨F64.le_refl_of_not_nan nlo, F64.le_trans h1 h2⟩
    · rw [if_neg hlo]
      by_cases hhi : F64.lt hi w = true
      · rw [if_pos hhi]
        exact ⟨F64.le_trans h1 h2, F64.le_refl_of_not_nan nhi⟩
      · rw [if_neg hhi]
        exact ⟨F64.le_of_not_lt nw nlo (by simpa using hlo), F64.le_of_not_lt nhi nw (by simpa using hhi)⟩
  unfold clampP
  by_cases hv : F64.isNaN v = true
  · simpa [hv] using key dflt nd
  · simpa [hv] using key v (by simpa using hv)

end Sys2Proof
end

