-- ==== Sys2Proof/Laws/State.lean ====
section
/-! SUPPORT. One lemma per field per update of the state, true by rfl: no later proof unfolds a record update. -/

namespace Sys2Proof.Machine

/-! ## respond -/

@[simp] theorem respond_cfg (e : Bool) (d : F64) (s : State) : (respond e d s).cfg = s.cfg := rfl
@[simp] theorem respond_BUF (e : Bool) (d : F64) (s : State) : (respond e d s).BUF = s.BUF := rfl
@[simp] theorem respond_CURSOR (e : Bool) (d : F64) (s : State) : (respond e d s).CURSOR = s.CURSOR := rfl
@[simp] theorem respond_S (e : Bool) (d : F64) (s : State) : (respond e d s).S = s.S := rfl
@[simp] theorem respond_G (e : Bool) (d : F64) (s : State) : (respond e d s).G = s.G := rfl
@[simp] theorem respond_B (e : Bool) (d : F64) (s : State) : (respond e d s).B = s.B := rfl
@[simp] theorem respond_SR (e : Bool) (d : F64) (s : State) : (respond e d s).SR = s.SR := rfl
@[simp] theorem respond_DT_S (e : Bool) (d : F64) (s : State) : (respond e d s).DT_S = s.DT_S := rfl
@[simp] theorem respond_LC_S (e : Bool) (d : F64) (s : State) : (respond e d s).LC_S = s.LC_S := rfl
@[simp] theorem respond_CC (e : Bool) (d : F64) (s : State) : (respond e d s).CC = s.CC := rfl
@[simp] theorem respond_TA0 (e : Bool) (d : F64) (s : State) : (respond e d s).TA0 = s.TA0 := rfl
@[simp] theorem respond_TA1 (e : Bool) (d : F64) (s : State) : (respond e d s).TA1 = s.TA1 := rfl
@[simp] theorem respond_TX1 (e : Bool) (d : F64) (s : State) : (respond e d s).TX1 = s.TX1 := rfl
@[simp] theorem respond_TX2 (e : Bool) (d : F64) (s : State) : (respond e d s).TX2 = s.TX2 := rfl
@[simp] theorem respond_DA0 (e : Bool) (d : F64) (s : State) : (respond e d s).DA0 = s.DA0 := rfl
@[simp] theorem respond_DA1 (e : Bool) (d : F64) (s : State) : (respond e d s).DA1 = s.DA1 := rfl
@[simp] theorem respond_DB1 (e : Bool) (d : F64) (s : State) : (respond e d s).DB1 = s.DB1 := rfl
@[simp] theorem respond_DU1 (e : Bool) (d : F64) (s : State) : (respond e d s).DU1 = s.DU1 := rfl
@[simp] theorem respond_DY1 (e : Bool) (d : F64) (s : State) : (respond e d s).DY1 = s.DY1 := rfl
@[simp] theorem respond_PHASE (e : Bool) (d : F64) (s : State) : (respond e d s).PHASE = s.PHASE := rfl
@[simp] theorem respond_ERR (e : Bool) (d : F64) (s : State) : (respond e d s).ERR = s.ERR := rfl
@[simp] theorem respond_ECAUSE (e : Bool) (d : F64) (s : State) : (respond e d s).ECAUSE = s.ECAUSE := rfl
@[simp] theorem respond_inbox (e : Bool) (d : F64) (s : State) : (respond e d s).inbox = s.inbox := rfl
@[simp] theorem respond_resp (e : Bool) (d : F64) (s : State) : (respond e d s).resp = some ⟨e, d⟩ := rfl
@[simp] theorem respond_freeSeq (e : Bool) (d : F64) (s : State) : (respond e d s).freeSeq = s.freeSeq := rfl

/-! ## reject -/

@[simp] theorem reject_cfg (c : Cause) (s : State) : (reject c s).cfg = s.cfg := rfl
@[simp] theorem reject_BUF (c : Cause) (s : State) : (reject c s).BUF = s.BUF := rfl
@[simp] theorem reject_CURSOR (c : Cause) (s : State) : (reject c s).CURSOR = s.CURSOR := rfl
@[simp] theorem reject_S (c : Cause) (s : State) : (reject c s).S = s.S := rfl
@[simp] theorem reject_G (c : Cause) (s : State) : (reject c s).G = s.G := rfl
@[simp] theorem reject_B (c : Cause) (s : State) : (reject c s).B = s.B := rfl
@[simp] theorem reject_SR (c : Cause) (s : State) : (reject c s).SR = s.SR := rfl
@[simp] theorem reject_DT_S (c : Cause) (s : State) : (reject c s).DT_S = s.DT_S := rfl
@[simp] theorem reject_LC_S (c : Cause) (s : State) : (reject c s).LC_S = s.LC_S := rfl
@[simp] theorem reject_CC (c : Cause) (s : State) : (reject c s).CC = s.CC := rfl
@[simp] theorem reject_TA0 (c : Cause) (s : State) : (reject c s).TA0 = s.TA0 := rfl
@[simp] theorem reject_TA1 (c : Cause) (s : State) : (reject c s).TA1 = s.TA1 := rfl
@[simp] theorem reject_TX1 (c : Cause) (s : State) : (reject c s).TX1 = s.TX1 := rfl
@[simp] theorem reject_TX2 (c : Cause) (s : State) : (reject c s).TX2 = s.TX2 := rfl
@[simp] theorem reject_DA0 (c : Cause) (s : State) : (reject c s).DA0 = s.DA0 := rfl
@[simp] theorem reject_DA1 (c : Cause) (s : State) : (reject c s).DA1 = s.DA1 := rfl
@[simp] theorem reject_DB1 (c : Cause) (s : State) : (reject c s).DB1 = s.DB1 := rfl
@[simp] theorem reject_DU1 (c : Cause) (s : State) : (reject c s).DU1 = s.DU1 := rfl
@[simp] theorem reject_DY1 (c : Cause) (s : State) : (reject c s).DY1 = s.DY1 := rfl
@[simp] theorem reject_PHASE (c : Cause) (s : State) : (reject c s).PHASE = s.PHASE := rfl
@[simp] theorem reject_ERR (c : Cause) (s : State) : (reject c s).ERR = true := rfl
@[simp] theorem reject_ECAUSE (c : Cause) (s : State) : (reject c s).ECAUSE = some c := rfl
@[simp] theorem reject_inbox (c : Cause) (s : State) : (reject c s).inbox = s.inbox := rfl
@[simp] theorem reject_resp (c : Cause) (s : State) : (reject c s).resp = some ⟨true, 0#64⟩ := rfl
@[simp] theorem reject_freeSeq (c : Cause) (s : State) : (reject c s).freeSeq = s.freeSeq := rfl

/-! ## setTone -/

@[simp] theorem setTone_cfg (p : F64 × F64) (s : State) : (setTone p s).cfg = s.cfg := rfl
@[simp] theorem setTone_BUF (p : F64 × F64) (s : State) : (setTone p s).BUF = s.BUF := rfl
@[simp] theorem setTone_CURSOR (p : F64 × F64) (s : State) : (setTone p s).CURSOR = s.CURSOR := rfl
@[simp] theorem setTone_S (p : F64 × F64) (s : State) : (setTone p s).S = s.S := rfl
@[simp] theorem setTone_G (p : F64 × F64) (s : State) : (setTone p s).G = s.G := rfl
@[simp] theorem setTone_B (p : F64 × F64) (s : State) : (setTone p s).B = s.B := rfl
@[simp] theorem setTone_SR (p : F64 × F64) (s : State) : (setTone p s).SR = s.SR := rfl
@[simp] theorem setTone_DT_S (p : F64 × F64) (s : State) : (setTone p s).DT_S = s.DT_S := rfl
@[simp] theorem setTone_LC_S (p : F64 × F64) (s : State) : (setTone p s).LC_S = s.LC_S := rfl
@[simp] theorem setTone_CC (p : F64 × F64) (s : State) : (setTone p s).CC = s.CC := rfl
@[simp] theorem setTone_TA0 (p : F64 × F64) (s : State) : (setTone p s).TA0 = p.1 := rfl
@[simp] theorem setTone_TA1 (p : F64 × F64) (s : State) : (setTone p s).TA1 = p.2 := rfl
@[simp] theorem setTone_TX1 (p : F64 × F64) (s : State) : (setTone p s).TX1 = s.TX1 := rfl
@[simp] theorem setTone_TX2 (p : F64 × F64) (s : State) : (setTone p s).TX2 = s.TX2 := rfl
@[simp] theorem setTone_DA0 (p : F64 × F64) (s : State) : (setTone p s).DA0 = s.DA0 := rfl
@[simp] theorem setTone_DA1 (p : F64 × F64) (s : State) : (setTone p s).DA1 = s.DA1 := rfl
@[simp] theorem setTone_DB1 (p : F64 × F64) (s : State) : (setTone p s).DB1 = s.DB1 := rfl
@[simp] theorem setTone_DU1 (p : F64 × F64) (s : State) : (setTone p s).DU1 = s.DU1 := rfl
@[simp] theorem setTone_DY1 (p : F64 × F64) (s : State) : (setTone p s).DY1 = s.DY1 := rfl
@[simp] theorem setTone_PHASE (p : F64 × F64) (s : State) : (setTone p s).PHASE = s.PHASE := rfl
@[simp] theorem setTone_ERR (p : F64 × F64) (s : State) : (setTone p s).ERR = s.ERR := rfl
@[simp] theorem setTone_ECAUSE (p : F64 × F64) (s : State) : (setTone p s).ECAUSE = s.ECAUSE := rfl
@[simp] theorem setTone_inbox (p : F64 × F64) (s : State) : (setTone p s).inbox = s.inbox := rfl
@[simp] theorem setTone_resp (p : F64 × F64) (s : State) : (setTone p s).resp = s.resp := rfl
@[simp] theorem setTone_freeSeq (p : F64 × F64) (s : State) : (setTone p s).freeSeq = s.freeSeq := rfl

/-! ## retune -/

@[simp] theorem retune_cfg (ν : NanSeed) (s : State) : (retune ν s).cfg = s.cfg := rfl
@[simp] theorem retune_BUF (ν : NanSeed) (s : State) : (retune ν s).BUF = s.BUF := rfl
@[simp] theorem retune_CURSOR (ν : NanSeed) (s : State) : (retune ν s).CURSOR = s.CURSOR := rfl
@[simp] theorem retune_S (ν : NanSeed) (s : State) : (retune ν s).S = s.S := rfl
@[simp] theorem retune_G (ν : NanSeed) (s : State) : (retune ν s).G = s.G := rfl
@[simp] theorem retune_B (ν : NanSeed) (s : State) : (retune ν s).B = s.B := rfl
@[simp] theorem retune_SR (ν : NanSeed) (s : State) : (retune ν s).SR = s.SR := rfl
@[simp] theorem retune_DT_S (ν : NanSeed) (s : State) : (retune ν s).DT_S = s.DT_S := rfl
@[simp] theorem retune_LC_S (ν : NanSeed) (s : State) : (retune ν s).LC_S = s.LC_S := rfl
@[simp] theorem retune_CC (ν : NanSeed) (s : State) : (retune ν s).CC = s.CC := rfl
@[simp] theorem retune_TA0 (ν : NanSeed) (s : State) : (retune ν s).TA0 = (toneCoef ν s.G s.B s.S).1 := rfl
@[simp] theorem retune_TA1 (ν : NanSeed) (s : State) : (retune ν s).TA1 = (toneCoef ν s.G s.B s.S).2 := rfl
@[simp] theorem retune_TX1 (ν : NanSeed) (s : State) : (retune ν s).TX1 = s.TX1 := rfl
@[simp] theorem retune_TX2 (ν : NanSeed) (s : State) : (retune ν s).TX2 = s.TX2 := rfl
@[simp] theorem retune_DA0 (ν : NanSeed) (s : State) : (retune ν s).DA0 = s.DA0 := rfl
@[simp] theorem retune_DA1 (ν : NanSeed) (s : State) : (retune ν s).DA1 = s.DA1 := rfl
@[simp] theorem retune_DB1 (ν : NanSeed) (s : State) : (retune ν s).DB1 = s.DB1 := rfl
@[simp] theorem retune_DU1 (ν : NanSeed) (s : State) : (retune ν s).DU1 = s.DU1 := rfl
@[simp] theorem retune_DY1 (ν : NanSeed) (s : State) : (retune ν s).DY1 = s.DY1 := rfl
@[simp] theorem retune_PHASE (ν : NanSeed) (s : State) : (retune ν s).PHASE = s.PHASE := rfl
@[simp] theorem retune_ERR (ν : NanSeed) (s : State) : (retune ν s).ERR = s.ERR := rfl
@[simp] theorem retune_ECAUSE (ν : NanSeed) (s : State) : (retune ν s).ECAUSE = s.ECAUSE := rfl
@[simp] theorem retune_inbox (ν : NanSeed) (s : State) : (retune ν s).inbox = s.inbox := rfl
@[simp] theorem retune_resp (ν : NanSeed) (s : State) : (retune ν s).resp = s.resp := rfl
@[simp] theorem retune_freeSeq (ν : NanSeed) (s : State) : (retune ν s).freeSeq = s.freeSeq := rfl

/-! ## storeDelay -/

@[simp] theorem storeDelay_cfg (d : F64) (k : Nat) (w : List F64) (s : State) : (storeDelay d k w s).cfg = s.cfg := rfl
@[simp] theorem storeDelay_BUF (d : F64) (k : Nat) (w : List F64) (s : State) : (storeDelay d k w s).BUF = s.BUF := rfl
@[simp] theorem storeDelay_CURSOR (d : F64) (k : Nat) (w : List F64) (s : State) : (storeDelay d k w s).CURSOR = s.CURSOR := rfl
@[simp] theorem storeDelay_S (d : F64) (k : Nat) (w : List F64) (s : State) : (storeDelay d k w s).S = d := rfl
@[simp] theorem storeDelay_G (d : F64) (k : Nat) (w : List F64) (s : State) : (storeDelay d k w s).G = s.G := rfl
@[simp] theorem storeDelay_B (d : F64) (k : Nat) (w : List F64) (s : State) : (storeDelay d k w s).B = s.B := rfl
@[simp] theorem storeDelay_SR (d : F64) (k : Nat) (w : List F64) (s : State) : (storeDelay d k w s).SR = s.SR := rfl
@[simp] theorem storeDelay_DT_S (d : F64) (k : Nat) (w : List F64) (s : State) : (storeDelay d k w s).DT_S = k := rfl
@[simp] theorem storeDelay_LC_S (d : F64) (k : Nat) (w : List F64) (s : State) : (storeDelay d k w s).LC_S = w := rfl
@[simp] theorem storeDelay_CC (d : F64) (k : Nat) (w : List F64) (s : State) : (storeDelay d k w s).CC = s.CC := rfl
@[simp] theorem storeDelay_TA0 (d : F64) (k : Nat) (w : List F64) (s : State) : (storeDelay d k w s).TA0 = s.TA0 := rfl
@[simp] theorem storeDelay_TA1 (d : F64) (k : Nat) (w : List F64) (s : State) : (storeDelay d k w s).TA1 = s.TA1 := rfl
@[simp] theorem storeDelay_TX1 (d : F64) (k : Nat) (w : List F64) (s : State) : (storeDelay d k w s).TX1 = s.TX1 := rfl
@[simp] theorem storeDelay_TX2 (d : F64) (k : Nat) (w : List F64) (s : State) : (storeDelay d k w s).TX2 = s.TX2 := rfl
@[simp] theorem storeDelay_DA0 (d : F64) (k : Nat) (w : List F64) (s : State) : (storeDelay d k w s).DA0 = s.DA0 := rfl
@[simp] theorem storeDelay_DA1 (d : F64) (k : Nat) (w : List F64) (s : State) : (storeDelay d k w s).DA1 = s.DA1 := rfl
@[simp] theorem storeDelay_DB1 (d : F64) (k : Nat) (w : List F64) (s : State) : (storeDelay d k w s).DB1 = s.DB1 := rfl
@[simp] theorem storeDelay_DU1 (d : F64) (k : Nat) (w : List F64) (s : State) : (storeDelay d k w s).DU1 = s.DU1 := rfl
@[simp] theorem storeDelay_DY1 (d : F64) (k : Nat) (w : List F64) (s : State) : (storeDelay d k w s).DY1 = s.DY1 := rfl
@[simp] theorem storeDelay_PHASE (d : F64) (k : Nat) (w : List F64) (s : State) : (storeDelay d k w s).PHASE = s.PHASE := rfl
@[simp] theorem storeDelay_ERR (d : F64) (k : Nat) (w : List F64) (s : State) : (storeDelay d k w s).ERR = s.ERR := rfl
@[simp] theorem storeDelay_ECAUSE (d : F64) (k : Nat) (w : List F64) (s : State) : (storeDelay d k w s).ECAUSE = s.ECAUSE := rfl
@[simp] theorem storeDelay_inbox (d : F64) (k : Nat) (w : List F64) (s : State) : (storeDelay d k w s).inbox = s.inbox := rfl
@[simp] theorem storeDelay_resp (d : F64) (k : Nat) (w : List F64) (s : State) : (storeDelay d k w s).resp = s.resp := rfl
@[simp] theorem storeDelay_freeSeq (d : F64) (k : Nat) (w : List F64) (s : State) : (storeDelay d k w s).freeSeq = s.freeSeq := rfl

/-! ## storeGain -/

@[simp] theorem storeGain_cfg (g : F64) (s : State) : (storeGain g s).cfg = s.cfg := rfl
@[simp] theorem storeGain_BUF (g : F64) (s : State) : (storeGain g s).BUF = s.BUF := rfl
@[simp] theorem storeGain_CURSOR (g : F64) (s : State) : (storeGain g s).CURSOR = s.CURSOR := rfl
@[simp] theorem storeGain_S (g : F64) (s : State) : (storeGain g s).S = s.S := rfl
@[simp] theorem storeGain_G (g : F64) (s : State) : (storeGain g s).G = g := rfl
@[simp] theorem storeGain_B (g : F64) (s : State) : (storeGain g s).B = s.B := rfl
@[simp] theorem storeGain_SR (g : F64) (s : State) : (storeGain g s).SR = s.SR := rfl
@[simp] theorem storeGain_DT_S (g : F64) (s : State) : (storeGain g s).DT_S = s.DT_S := rfl
@[simp] theorem storeGain_LC_S (g : F64) (s : State) : (storeGain g s).LC_S = s.LC_S := rfl
@[simp] theorem storeGain_CC (g : F64) (s : State) : (storeGain g s).CC = s.CC := rfl
@[simp] theorem storeGain_TA0 (g : F64) (s : State) : (storeGain g s).TA0 = s.TA0 := rfl
@[simp] theorem storeGain_TA1 (g : F64) (s : State) : (storeGain g s).TA1 = s.TA1 := rfl
@[simp] theorem storeGain_TX1 (g : F64) (s : State) : (storeGain g s).TX1 = s.TX1 := rfl
@[simp] theorem storeGain_TX2 (g : F64) (s : State) : (storeGain g s).TX2 = s.TX2 := rfl
@[simp] theorem storeGain_DA0 (g : F64) (s : State) : (storeGain g s).DA0 = s.DA0 := rfl
@[simp] theorem storeGain_DA1 (g : F64) (s : State) : (storeGain g s).DA1 = s.DA1 := rfl
@[simp] theorem storeGain_DB1 (g : F64) (s : State) : (storeGain g s).DB1 = s.DB1 := rfl
@[simp] theorem storeGain_DU1 (g : F64) (s : State) : (storeGain g s).DU1 = s.DU1 := rfl
@[simp] theorem storeGain_DY1 (g : F64) (s : State) : (storeGain g s).DY1 = s.DY1 := rfl
@[simp] theorem storeGain_PHASE (g : F64) (s : State) : (storeGain g s).PHASE = s.PHASE := rfl
@[simp] theorem storeGain_ERR (g : F64) (s : State) : (storeGain g s).ERR = s.ERR := rfl
@[simp] theorem storeGain_ECAUSE (g : F64) (s : State) : (storeGain g s).ECAUSE = s.ECAUSE := rfl
@[simp] theorem storeGain_inbox (g : F64) (s : State) : (storeGain g s).inbox = s.inbox := rfl
@[simp] theorem storeGain_resp (g : F64) (s : State) : (storeGain g s).resp = s.resp := rfl
@[simp] theorem storeGain_freeSeq (g : F64) (s : State) : (storeGain g s).freeSeq = s.freeSeq := rfl

/-! ## storeBright -/

@[simp] theorem storeBright_cfg (b : F64) (s : State) : (storeBright b s).cfg = s.cfg := rfl
@[simp] theorem storeBright_BUF (b : F64) (s : State) : (storeBright b s).BUF = s.BUF := rfl
@[simp] theorem storeBright_CURSOR (b : F64) (s : State) : (storeBright b s).CURSOR = s.CURSOR := rfl
@[simp] theorem storeBright_S (b : F64) (s : State) : (storeBright b s).S = s.S := rfl
@[simp] theorem storeBright_G (b : F64) (s : State) : (storeBright b s).G = s.G := rfl
@[simp] theorem storeBright_B (b : F64) (s : State) : (storeBright b s).B = b := rfl
@[simp] theorem storeBright_SR (b : F64) (s : State) : (storeBright b s).SR = s.SR := rfl
@[simp] theorem storeBright_DT_S (b : F64) (s : State) : (storeBright b s).DT_S = s.DT_S := rfl
@[simp] theorem storeBright_LC_S (b : F64) (s : State) : (storeBright b s).LC_S = s.LC_S := rfl
@[simp] theorem storeBright_CC (b : F64) (s : State) : (storeBright b s).CC = s.CC := rfl
@[simp] theorem storeBright_TA0 (b : F64) (s : State) : (storeBright b s).TA0 = s.TA0 := rfl
@[simp] theorem storeBright_TA1 (b : F64) (s : State) : (storeBright b s).TA1 = s.TA1 := rfl
@[simp] theorem storeBright_TX1 (b : F64) (s : State) : (storeBright b s).TX1 = s.TX1 := rfl
@[simp] theorem storeBright_TX2 (b : F64) (s : State) : (storeBright b s).TX2 = s.TX2 := rfl
@[simp] theorem storeBright_DA0 (b : F64) (s : State) : (storeBright b s).DA0 = s.DA0 := rfl
@[simp] theorem storeBright_DA1 (b : F64) (s : State) : (storeBright b s).DA1 = s.DA1 := rfl
@[simp] theorem storeBright_DB1 (b : F64) (s : State) : (storeBright b s).DB1 = s.DB1 := rfl
@[simp] theorem storeBright_DU1 (b : F64) (s : State) : (storeBright b s).DU1 = s.DU1 := rfl
@[simp] theorem storeBright_DY1 (b : F64) (s : State) : (storeBright b s).DY1 = s.DY1 := rfl
@[simp] theorem storeBright_PHASE (b : F64) (s : State) : (storeBright b s).PHASE = s.PHASE := rfl
@[simp] theorem storeBright_ERR (b : F64) (s : State) : (storeBright b s).ERR = s.ERR := rfl
@[simp] theorem storeBright_ECAUSE (b : F64) (s : State) : (storeBright b s).ECAUSE = s.ECAUSE := rfl
@[simp] theorem storeBright_inbox (b : F64) (s : State) : (storeBright b s).inbox = s.inbox := rfl
@[simp] theorem storeBright_resp (b : F64) (s : State) : (storeBright b s).resp = s.resp := rfl
@[simp] theorem storeBright_freeSeq (b : F64) (s : State) : (storeBright b s).freeSeq = s.freeSeq := rfl

/-! ## storeRate -/

@[simp] theorem storeRate_cfg (r : F64) (c : DcCoef) (s : State) : (storeRate r c s).cfg = s.cfg := rfl
@[simp] theorem storeRate_BUF (r : F64) (c : DcCoef) (s : State) : (storeRate r c s).BUF = s.BUF := rfl
@[simp] theorem storeRate_CURSOR (r : F64) (c : DcCoef) (s : State) : (storeRate r c s).CURSOR = s.CURSOR := rfl
@[simp] theorem storeRate_S (r : F64) (c : DcCoef) (s : State) : (storeRate r c s).S = s.S := rfl
@[simp] theorem storeRate_G (r : F64) (c : DcCoef) (s : State) : (storeRate r c s).G = s.G := rfl
@[simp] theorem storeRate_B (r : F64) (c : DcCoef) (s : State) : (storeRate r c s).B = s.B := rfl
@[simp] theorem storeRate_SR (r : F64) (c : DcCoef) (s : State) : (storeRate r c s).SR = r := rfl
@[simp] theorem storeRate_DT_S (r : F64) (c : DcCoef) (s : State) : (storeRate r c s).DT_S = s.DT_S := rfl
@[simp] theorem storeRate_LC_S (r : F64) (c : DcCoef) (s : State) : (storeRate r c s).LC_S = s.LC_S := rfl
@[simp] theorem storeRate_CC (r : F64) (c : DcCoef) (s : State) : (storeRate r c s).CC = s.CC := rfl
@[simp] theorem storeRate_TA0 (r : F64) (c : DcCoef) (s : State) : (storeRate r c s).TA0 = s.TA0 := rfl
@[simp] theorem storeRate_TA1 (r : F64) (c : DcCoef) (s : State) : (storeRate r c s).TA1 = s.TA1 := rfl
@[simp] theorem storeRate_TX1 (r : F64) (c : DcCoef) (s : State) : (storeRate r c s).TX1 = s.TX1 := rfl
@[simp] theorem storeRate_TX2 (r : F64) (c : DcCoef) (s : State) : (storeRate r c s).TX2 = s.TX2 := rfl
@[simp] theorem storeRate_DA0 (r : F64) (c : DcCoef) (s : State) : (storeRate r c s).DA0 = c.a0 := rfl
@[simp] theorem storeRate_DA1 (r : F64) (c : DcCoef) (s : State) : (storeRate r c s).DA1 = c.a1 := rfl
@[simp] theorem storeRate_DB1 (r : F64) (c : DcCoef) (s : State) : (storeRate r c s).DB1 = c.b1 := rfl
@[simp] theorem storeRate_DU1 (r : F64) (c : DcCoef) (s : State) : (storeRate r c s).DU1 = s.DU1 := rfl
@[simp] theorem storeRate_DY1 (r : F64) (c : DcCoef) (s : State) : (storeRate r c s).DY1 = s.DY1 := rfl
@[simp] theorem storeRate_PHASE (r : F64) (c : DcCoef) (s : State) : (storeRate r c s).PHASE = s.PHASE := rfl
@[simp] theorem storeRate_ERR (r : F64) (c : DcCoef) (s : State) : (storeRate r c s).ERR = s.ERR := rfl
@[simp] theorem storeRate_ECAUSE (r : F64) (c : DcCoef) (s : State) : (storeRate r c s).ECAUSE = s.ECAUSE := rfl
@[simp] theorem storeRate_inbox (r : F64) (c : DcCoef) (s : State) : (storeRate r c s).inbox = s.inbox := rfl
@[simp] theorem storeRate_resp (r : F64) (c : DcCoef) (s : State) : (storeRate r c s).resp = s.resp := rfl
@[simp] theorem storeRate_freeSeq (r : F64) (c : DcCoef) (s : State) : (storeRate r c s).freeSeq = s.freeSeq := rfl

/-! ## clearAudio -/

@[simp] theorem clearAudio_cfg (s : State) : (clearAudio s).cfg = s.cfg := rfl
@[simp] theorem clearAudio_BUF (s : State) : (clearAudio s).BUF = [] := rfl
@[simp] theorem clearAudio_CURSOR (s : State) : (clearAudio s).CURSOR = 0 := rfl
@[simp] theorem clearAudio_S (s : State) : (clearAudio s).S = s.S := rfl
@[simp] theorem clearAudio_G (s : State) : (clearAudio s).G = s.G := rfl
@[simp] theorem clearAudio_B (s : State) : (clearAudio s).B = s.B := rfl
@[simp] theorem clearAudio_SR (s : State) : (clearAudio s).SR = s.SR := rfl
@[simp] theorem clearAudio_DT_S (s : State) : (clearAudio s).DT_S = s.DT_S := rfl
@[simp] theorem clearAudio_LC_S (s : State) : (clearAudio s).LC_S = s.LC_S := rfl
@[simp] theorem clearAudio_CC (s : State) : (clearAudio s).CC = s.CC := rfl
@[simp] theorem clearAudio_TA0 (s : State) : (clearAudio s).TA0 = s.TA0 := rfl
@[simp] theorem clearAudio_TA1 (s : State) : (clearAudio s).TA1 = s.TA1 := rfl
@[simp] theorem clearAudio_TX1 (s : State) : (clearAudio s).TX1 = F64.pzero := rfl
@[simp] theorem clearAudio_TX2 (s : State) : (clearAudio s).TX2 = F64.pzero := rfl
@[simp] theorem clearAudio_DA0 (s : State) : (clearAudio s).DA0 = s.DA0 := rfl
@[simp] theorem clearAudio_DA1 (s : State) : (clearAudio s).DA1 = s.DA1 := rfl
@[simp] theorem clearAudio_DB1 (s : State) : (clearAudio s).DB1 = s.DB1 := rfl
@[simp] theorem clearAudio_DU1 (s : State) : (clearAudio s).DU1 = F64.pzero := rfl
@[simp] theorem clearAudio_DY1 (s : State) : (clearAudio s).DY1 = F64.pzero := rfl
@[simp] theorem clearAudio_PHASE (s : State) : (clearAudio s).PHASE = s.PHASE := rfl
@[simp] theorem clearAudio_ERR (s : State) : (clearAudio s).ERR = s.ERR := rfl
@[simp] theorem clearAudio_ECAUSE (s : State) : (clearAudio s).ECAUSE = s.ECAUSE := rfl
@[simp] theorem clearAudio_inbox (s : State) : (clearAudio s).inbox = s.inbox := rfl
@[simp] theorem clearAudio_resp (s : State) : (clearAudio s).resp = s.resp := rfl
@[simp] theorem clearAudio_freeSeq (s : State) : (clearAudio s).freeSeq = s.freeSeq := rfl

/-! ## setPhase -/

@[simp] theorem setPhase_cfg (p : Phase) (s : State) : (setPhase p s).cfg = s.cfg := rfl
@[simp] theorem setPhase_BUF (p : Phase) (s : State) : (setPhase p s).BUF = s.BUF := rfl
@[simp] theorem setPhase_CURSOR (p : Phase) (s : State) : (setPhase p s).CURSOR = s.CURSOR := rfl
@[simp] theorem setPhase_S (p : Phase) (s : State) : (setPhase p s).S = s.S := rfl
@[simp] theorem setPhase_G (p : Phase) (s : State) : (setPhase p s).G = s.G := rfl
@[simp] theorem setPhase_B (p : Phase) (s : State) : (setPhase p s).B = s.B := rfl
@[simp] theorem setPhase_SR (p : Phase) (s : State) : (setPhase p s).SR = s.SR := rfl
@[simp] theorem setPhase_DT_S (p : Phase) (s : State) : (setPhase p s).DT_S = s.DT_S := rfl
@[simp] theorem setPhase_LC_S (p : Phase) (s : State) : (setPhase p s).LC_S = s.LC_S := rfl
@[simp] theorem setPhase_CC (p : Phase) (s : State) : (setPhase p s).CC = s.CC := rfl
@[simp] theorem setPhase_TA0 (p : Phase) (s : State) : (setPhase p s).TA0 = s.TA0 := rfl
@[simp] theorem setPhase_TA1 (p : Phase) (s : State) : (setPhase p s).TA1 = s.TA1 := rfl
@[simp] theorem setPhase_TX1 (p : Phase) (s : State) : (setPhase p s).TX1 = s.TX1 := rfl
@[simp] theorem setPhase_TX2 (p : Phase) (s : State) : (setPhase p s).TX2 = s.TX2 := rfl
@[simp] theorem setPhase_DA0 (p : Phase) (s : State) : (setPhase p s).DA0 = s.DA0 := rfl
@[simp] theorem setPhase_DA1 (p : Phase) (s : State) : (setPhase p s).DA1 = s.DA1 := rfl
@[simp] theorem setPhase_DB1 (p : Phase) (s : State) : (setPhase p s).DB1 = s.DB1 := rfl
@[simp] theorem setPhase_DU1 (p : Phase) (s : State) : (setPhase p s).DU1 = s.DU1 := rfl
@[simp] theorem setPhase_DY1 (p : Phase) (s : State) : (setPhase p s).DY1 = s.DY1 := rfl
@[simp] theorem setPhase_PHASE (p : Phase) (s : State) : (setPhase p s).PHASE = p := rfl
@[simp] theorem setPhase_ERR (p : Phase) (s : State) : (setPhase p s).ERR = s.ERR := rfl
@[simp] theorem setPhase_ECAUSE (p : Phase) (s : State) : (setPhase p s).ECAUSE = s.ECAUSE := rfl
@[simp] theorem setPhase_inbox (p : Phase) (s : State) : (setPhase p s).inbox = s.inbox := rfl
@[simp] theorem setPhase_resp (p : Phase) (s : State) : (setPhase p s).resp = s.resp := rfl
@[simp] theorem setPhase_freeSeq (p : Phase) (s : State) : (setPhase p s).freeSeq = s.freeSeq := rfl

/-! ## toneShift -/

@[simp] theorem toneShift_cfg (x : F64) (s : State) : (toneShift x s).cfg = s.cfg := rfl
@[simp] theorem toneShift_BUF (x : F64) (s : State) : (toneShift x s).BUF = s.BUF := rfl
@[simp] theorem toneShift_CURSOR (x : F64) (s : State) : (toneShift x s).CURSOR = s.CURSOR := rfl
@[simp] theorem toneShift_S (x : F64) (s : State) : (toneShift x s).S = s.S := rfl
@[simp] theorem toneShift_G (x : F64) (s : State) : (toneShift x s).G = s.G := rfl
@[simp] theorem toneShift_B (x : F64) (s : State) : (toneShift x s).B = s.B := rfl
@[simp] theorem toneShift_SR (x : F64) (s : State) : (toneShift x s).SR = s.SR := rfl
@[simp] theorem toneShift_DT_S (x : F64) (s : State) : (toneShift x s).DT_S = s.DT_S := rfl
@[simp] theorem toneShift_LC_S (x : F64) (s : State) : (toneShift x s).LC_S = s.LC_S := rfl
@[simp] theorem toneShift_CC (x : F64) (s : State) : (toneShift x s).CC = s.CC := rfl
@[simp] theorem toneShift_TA0 (x : F64) (s : State) : (toneShift x s).TA0 = s.TA0 := rfl
@[simp] theorem toneShift_TA1 (x : F64) (s : State) : (toneShift x s).TA1 = s.TA1 := rfl
@[simp] theorem toneShift_TX1 (x : F64) (s : State) : (toneShift x s).TX1 = x := rfl
@[simp] theorem toneShift_TX2 (x : F64) (s : State) : (toneShift x s).TX2 = s.TX1 := rfl
@[simp] theorem toneShift_DA0 (x : F64) (s : State) : (toneShift x s).DA0 = s.DA0 := rfl
@[simp] theorem toneShift_DA1 (x : F64) (s : State) : (toneShift x s).DA1 = s.DA1 := rfl
@[simp] theorem toneShift_DB1 (x : F64) (s : State) : (toneShift x s).DB1 = s.DB1 := rfl
@[simp] theorem toneShift_DU1 (x : F64) (s : State) : (toneShift x s).DU1 = s.DU1 := rfl
@[simp] theorem toneShift_DY1 (x : F64) (s : State) : (toneShift x s).DY1 = s.DY1 := rfl
@[simp] theorem toneShift_PHASE (x : F64) (s : State) : (toneShift x s).PHASE = s.PHASE := rfl
@[simp] theorem toneShift_ERR (x : F64) (s : State) : (toneShift x s).ERR = s.ERR := rfl
@[simp] theorem toneShift_ECAUSE (x : F64) (s : State) : (toneShift x s).ECAUSE = s.ECAUSE := rfl
@[simp] theorem toneShift_inbox (x : F64) (s : State) : (toneShift x s).inbox = s.inbox := rfl
@[simp] theorem toneShift_resp (x : F64) (s : State) : (toneShift x s).resp = s.resp := rfl
@[simp] theorem toneShift_freeSeq (x : F64) (s : State) : (toneShift x s).freeSeq = s.freeSeq := rfl

/-! ## dcShift -/

@[simp] theorem dcShift_cfg (u y : F64) (s : State) : (dcShift u y s).cfg = s.cfg := rfl
@[simp] theorem dcShift_BUF (u y : F64) (s : State) : (dcShift u y s).BUF = s.BUF := rfl
@[simp] theorem dcShift_CURSOR (u y : F64) (s : State) : (dcShift u y s).CURSOR = s.CURSOR := rfl
@[simp] theorem dcShift_S (u y : F64) (s : State) : (dcShift u y s).S = s.S := rfl
@[simp] theorem dcShift_G (u y : F64) (s : State) : (dcShift u y s).G = s.G := rfl
@[simp] theorem dcShift_B (u y : F64) (s : State) : (dcShift u y s).B = s.B := rfl
@[simp] theorem dcShift_SR (u y : F64) (s : State) : (dcShift u y s).SR = s.SR := rfl
@[simp] theorem dcShift_DT_S (u y : F64) (s : State) : (dcShift u y s).DT_S = s.DT_S := rfl
@[simp] theorem dcShift_LC_S (u y : F64) (s : State) : (dcShift u y s).LC_S = s.LC_S := rfl
@[simp] theorem dcShift_CC (u y : F64) (s : State) : (dcShift u y s).CC = s.CC := rfl
@[simp] theorem dcShift_TA0 (u y : F64) (s : State) : (dcShift u y s).TA0 = s.TA0 := rfl
@[simp] theorem dcShift_TA1 (u y : F64) (s : State) : (dcShift u y s).TA1 = s.TA1 := rfl
@[simp] theorem dcShift_TX1 (u y : F64) (s : State) : (dcShift u y s).TX1 = s.TX1 := rfl
@[simp] theorem dcShift_TX2 (u y : F64) (s : State) : (dcShift u y s).TX2 = s.TX2 := rfl
@[simp] theorem dcShift_DA0 (u y : F64) (s : State) : (dcShift u y s).DA0 = s.DA0 := rfl
@[simp] theorem dcShift_DA1 (u y : F64) (s : State) : (dcShift u y s).DA1 = s.DA1 := rfl
@[simp] theorem dcShift_DB1 (u y : F64) (s : State) : (dcShift u y s).DB1 = s.DB1 := rfl
@[simp] theorem dcShift_DU1 (u y : F64) (s : State) : (dcShift u y s).DU1 = u := rfl
@[simp] theorem dcShift_DY1 (u y : F64) (s : State) : (dcShift u y s).DY1 = y := rfl
@[simp] theorem dcShift_PHASE (u y : F64) (s : State) : (dcShift u y s).PHASE = s.PHASE := rfl
@[simp] theorem dcShift_ERR (u y : F64) (s : State) : (dcShift u y s).ERR = s.ERR := rfl
@[simp] theorem dcShift_ECAUSE (u y : F64) (s : State) : (dcShift u y s).ECAUSE = s.ECAUSE := rfl
@[simp] theorem dcShift_inbox (u y : F64) (s : State) : (dcShift u y s).inbox = s.inbox := rfl
@[simp] theorem dcShift_resp (u y : F64) (s : State) : (dcShift u y s).resp = s.resp := rfl
@[simp] theorem dcShift_freeSeq (u y : F64) (s : State) : (dcShift u y s).freeSeq = s.freeSeq := rfl

/-! ## pushSample -/

@[simp] theorem pushSample_cfg (v : F64) (s : State) : (pushSample v s).cfg = s.cfg := rfl
@[simp] theorem pushSample_BUF (v : F64) (s : State) : (pushSample v s).BUF = s.BUF.write s.CURSOR v := rfl
@[simp] theorem pushSample_CURSOR (v : F64) (s : State) : (pushSample v s).CURSOR = (s.CURSOR + 1) % s.cfg.len := rfl
@[simp] theorem pushSample_S (v : F64) (s : State) : (pushSample v s).S = s.S := rfl
@[simp] theorem pushSample_G (v : F64) (s : State) : (pushSample v s).G = s.G := rfl
@[simp] theorem pushSample_B (v : F64) (s : State) : (pushSample v s).B = s.B := rfl
@[simp] theorem pushSample_SR (v : F64) (s : State) : (pushSample v s).SR = s.SR := rfl
@[simp] theorem pushSample_DT_S (v : F64) (s : State) : (pushSample v s).DT_S = s.DT_S := rfl
@[simp] theorem pushSample_LC_S (v : F64) (s : State) : (pushSample v s).LC_S = s.LC_S := rfl
@[simp] theorem pushSample_CC (v : F64) (s : State) : (pushSample v s).CC = s.CC := rfl
@[simp] theorem pushSample_TA0 (v : F64) (s : State) : (pushSample v s).TA0 = s.TA0 := rfl
@[simp] theorem pushSample_TA1 (v : F64) (s : State) : (pushSample v s).TA1 = s.TA1 := rfl
@[simp] theorem pushSample_TX1 (v : F64) (s : State) : (pushSample v s).TX1 = s.TX1 := rfl
@[simp] theorem pushSample_TX2 (v : F64) (s : State) : (pushSample v s).TX2 = s.TX2 := rfl
@[simp] theorem pushSample_DA0 (v : F64) (s : State) : (pushSample v s).DA0 = s.DA0 := rfl
@[simp] theorem pushSample_DA1 (v : F64) (s : State) : (pushSample v s).DA1 = s.DA1 := rfl
@[simp] theorem pushSample_DB1 (v : F64) (s : State) : (pushSample v s).DB1 = s.DB1 := rfl
@[simp] theorem pushSample_DU1 (v : F64) (s : State) : (pushSample v s).DU1 = s.DU1 := rfl
@[simp] theorem pushSample_DY1 (v : F64) (s : State) : (pushSample v s).DY1 = s.DY1 := rfl
@[simp] theorem pushSample_PHASE (v : F64) (s : State) : (pushSample v s).PHASE = s.PHASE := rfl
@[simp] theorem pushSample_ERR (v : F64) (s : State) : (pushSample v s).ERR = s.ERR := rfl
@[simp] theorem pushSample_ECAUSE (v : F64) (s : State) : (pushSample v s).ECAUSE = s.ECAUSE := rfl
@[simp] theorem pushSample_inbox (v : F64) (s : State) : (pushSample v s).inbox = s.inbox := rfl
@[simp] theorem pushSample_resp (v : F64) (s : State) : (pushSample v s).resp = s.resp := rfl
@[simp] theorem pushSample_freeSeq (v : F64) (s : State) : (pushSample v s).freeSeq = s.freeSeq := rfl

/-! ## storeSample -/

@[simp] theorem storeSample_cfg (v : Sample) (s : State) : (storeSample v s).cfg = s.cfg := rfl
@[simp] theorem storeSample_BUF (v : Sample) (s : State) : (storeSample v s).BUF = s.BUF.write s.CURSOR v.y := rfl
@[simp] theorem storeSample_CURSOR (v : Sample) (s : State) : (storeSample v s).CURSOR = (s.CURSOR + 1) % s.cfg.len := rfl
@[simp] theorem storeSample_S (v : Sample) (s : State) : (storeSample v s).S = s.S := rfl
@[simp] theorem storeSample_G (v : Sample) (s : State) : (storeSample v s).G = s.G := rfl
@[simp] theorem storeSample_B (v : Sample) (s : State) : (storeSample v s).B = s.B := rfl
@[simp] theorem storeSample_SR (v : Sample) (s : State) : (storeSample v s).SR = s.SR := rfl
@[simp] theorem storeSample_DT_S (v : Sample) (s : State) : (storeSample v s).DT_S = s.DT_S := rfl
@[simp] theorem storeSample_LC_S (v : Sample) (s : State) : (storeSample v s).LC_S = s.LC_S := rfl
@[simp] theorem storeSample_CC (v : Sample) (s : State) : (storeSample v s).CC = s.CC := rfl
@[simp] theorem storeSample_TA0 (v : Sample) (s : State) : (storeSample v s).TA0 = s.TA0 := rfl
@[simp] theorem storeSample_TA1 (v : Sample) (s : State) : (storeSample v s).TA1 = s.TA1 := rfl
@[simp] theorem storeSample_TX1 (v : Sample) (s : State) : (storeSample v s).TX1 = v.x := rfl
@[simp] theorem storeSample_TX2 (v : Sample) (s : State) : (storeSample v s).TX2 = s.TX1 := rfl
@[simp] theorem storeSample_DA0 (v : Sample) (s : State) : (storeSample v s).DA0 = s.DA0 := rfl
@[simp] theorem storeSample_DA1 (v : Sample) (s : State) : (storeSample v s).DA1 = s.DA1 := rfl
@[simp] theorem storeSample_DB1 (v : Sample) (s : State) : (storeSample v s).DB1 = s.DB1 := rfl
@[simp] theorem storeSample_DU1 (v : Sample) (s : State) : (storeSample v s).DU1 = v.u := rfl
@[simp] theorem storeSample_DY1 (v : Sample) (s : State) : (storeSample v s).DY1 = v.y := rfl
@[simp] theorem storeSample_PHASE (v : Sample) (s : State) : (storeSample v s).PHASE = .running := rfl
@[simp] theorem storeSample_ERR (v : Sample) (s : State) : (storeSample v s).ERR = s.ERR := rfl
@[simp] theorem storeSample_ECAUSE (v : Sample) (s : State) : (storeSample v s).ECAUSE = s.ECAUSE := rfl
@[simp] theorem storeSample_inbox (v : Sample) (s : State) : (storeSample v s).inbox = s.inbox := rfl
@[simp] theorem storeSample_resp (v : Sample) (s : State) : (storeSample v s).resp = s.resp := rfl
@[simp] theorem storeSample_freeSeq (v : Sample) (s : State) : (storeSample v s).freeSeq = s.freeSeq := rfl

/-! ## accept -/

@[simp] theorem accept_cfg (r : List Input) (s : State) : (accept r s).cfg = s.cfg := rfl
@[simp] theorem accept_BUF (r : List Input) (s : State) : (accept r s).BUF = s.BUF := rfl
@[simp] theorem accept_CURSOR (r : List Input) (s : State) : (accept r s).CURSOR = s.CURSOR := rfl
@[simp] theorem accept_S (r : List Input) (s : State) : (accept r s).S = s.S := rfl
@[simp] theorem accept_G (r : List Input) (s : State) : (accept r s).G = s.G := rfl
@[simp] theorem accept_B (r : List Input) (s : State) : (accept r s).B = s.B := rfl
@[simp] theorem accept_SR (r : List Input) (s : State) : (accept r s).SR = s.SR := rfl
@[simp] theorem accept_DT_S (r : List Input) (s : State) : (accept r s).DT_S = s.DT_S := rfl
@[simp] theorem accept_LC_S (r : List Input) (s : State) : (accept r s).LC_S = s.LC_S := rfl
@[simp] theorem accept_CC (r : List Input) (s : State) : (accept r s).CC = s.CC := rfl
@[simp] theorem accept_TA0 (r : List Input) (s : State) : (accept r s).TA0 = s.TA0 := rfl
@[simp] theorem accept_TA1 (r : List Input) (s : State) : (accept r s).TA1 = s.TA1 := rfl
@[simp] theorem accept_TX1 (r : List Input) (s : State) : (accept r s).TX1 = s.TX1 := rfl
@[simp] theorem accept_TX2 (r : List Input) (s : State) : (accept r s).TX2 = s.TX2 := rfl
@[simp] theorem accept_DA0 (r : List Input) (s : State) : (accept r s).DA0 = s.DA0 := rfl
@[simp] theorem accept_DA1 (r : List Input) (s : State) : (accept r s).DA1 = s.DA1 := rfl
@[simp] theorem accept_DB1 (r : List Input) (s : State) : (accept r s).DB1 = s.DB1 := rfl
@[simp] theorem accept_DU1 (r : List Input) (s : State) : (accept r s).DU1 = s.DU1 := rfl
@[simp] theorem accept_DY1 (r : List Input) (s : State) : (accept r s).DY1 = s.DY1 := rfl
@[simp] theorem accept_PHASE (r : List Input) (s : State) : (accept r s).PHASE = s.PHASE := rfl
@[simp] theorem accept_ERR (r : List Input) (s : State) : (accept r s).ERR = s.ERR := rfl
@[simp] theorem accept_ECAUSE (r : List Input) (s : State) : (accept r s).ECAUSE = s.ECAUSE := rfl
@[simp] theorem accept_inbox (r : List Input) (s : State) : (accept r s).inbox = r := rfl
@[simp] theorem accept_resp (r : List Input) (s : State) : (accept r s).resp = s.resp := rfl
@[simp] theorem accept_freeSeq (r : List Input) (s : State) : (accept r s).freeSeq = s.freeSeq + 1 := rfl

/-! ## offer -/

@[simp] theorem offer_cfg (i : Instr) (s : State) : (offer i s).cfg = s.cfg := rfl
@[simp] theorem offer_BUF (i : Instr) (s : State) : (offer i s).BUF = s.BUF := rfl
@[simp] theorem offer_CURSOR (i : Instr) (s : State) : (offer i s).CURSOR = s.CURSOR := rfl
@[simp] theorem offer_S (i : Instr) (s : State) : (offer i s).S = s.S := rfl
@[simp] theorem offer_G (i : Instr) (s : State) : (offer i s).G = s.G := rfl
@[simp] theorem offer_B (i : Instr) (s : State) : (offer i s).B = s.B := rfl
@[simp] theorem offer_SR (i : Instr) (s : State) : (offer i s).SR = s.SR := rfl
@[simp] theorem offer_DT_S (i : Instr) (s : State) : (offer i s).DT_S = s.DT_S := rfl
@[simp] theorem offer_LC_S (i : Instr) (s : State) : (offer i s).LC_S = s.LC_S := rfl
@[simp] theorem offer_CC (i : Instr) (s : State) : (offer i s).CC = s.CC := rfl
@[simp] theorem offer_TA0 (i : Instr) (s : State) : (offer i s).TA0 = s.TA0 := rfl
@[simp] theorem offer_TA1 (i : Instr) (s : State) : (offer i s).TA1 = s.TA1 := rfl
@[simp] theorem offer_TX1 (i : Instr) (s : State) : (offer i s).TX1 = s.TX1 := rfl
@[simp] theorem offer_TX2 (i : Instr) (s : State) : (offer i s).TX2 = s.TX2 := rfl
@[simp] theorem offer_DA0 (i : Instr) (s : State) : (offer i s).DA0 = s.DA0 := rfl
@[simp] theorem offer_DA1 (i : Instr) (s : State) : (offer i s).DA1 = s.DA1 := rfl
@[simp] theorem offer_DB1 (i : Instr) (s : State) : (offer i s).DB1 = s.DB1 := rfl
@[simp] theorem offer_DU1 (i : Instr) (s : State) : (offer i s).DU1 = s.DU1 := rfl
@[simp] theorem offer_DY1 (i : Instr) (s : State) : (offer i s).DY1 = s.DY1 := rfl
@[simp] theorem offer_PHASE (i : Instr) (s : State) : (offer i s).PHASE = s.PHASE := rfl
@[simp] theorem offer_ERR (i : Instr) (s : State) : (offer i s).ERR = s.ERR := rfl
@[simp] theorem offer_ECAUSE (i : Instr) (s : State) : (offer i s).ECAUSE = s.ECAUSE := rfl
@[simp] theorem offer_inbox (i : Instr) (s : State) : (offer i s).inbox = .command (encode i) :: s.inbox := rfl
@[simp] theorem offer_resp (i : Instr) (s : State) : (offer i s).resp = s.resp := rfl
@[simp] theorem offer_freeSeq (i : Instr) (s : State) : (offer i s).freeSeq = s.freeSeq := rfl

/-! ## resetOf -/

@[simp] theorem resetOf_cfg (c : Config) (k : Nat) : (State.resetOf c k).cfg = c := rfl
@[simp] theorem resetOf_BUF (c : Config) (k : Nat) : (State.resetOf c k).BUF = [] := rfl
@[simp] theorem resetOf_CURSOR (c : Config) (k : Nat) : (State.resetOf c k).CURSOR = 0 := rfl
@[simp] theorem resetOf_G (c : Config) (k : Nat) : (State.resetOf c k).G = F64.pzero := rfl
@[simp] theorem resetOf_B (c : Config) (k : Nat) : (State.resetOf c k).B = F64.pzero := rfl
@[simp] theorem resetOf_SR (c : Config) (k : Nat) : (State.resetOf c k).SR = Config.defaultSr := rfl
@[simp] theorem resetOf_TX1 (c : Config) (k : Nat) : (State.resetOf c k).TX1 = F64.pzero := rfl
@[simp] theorem resetOf_TX2 (c : Config) (k : Nat) : (State.resetOf c k).TX2 = F64.pzero := rfl
@[simp] theorem resetOf_DU1 (c : Config) (k : Nat) : (State.resetOf c k).DU1 = F64.pzero := rfl
@[simp] theorem resetOf_DY1 (c : Config) (k : Nat) : (State.resetOf c k).DY1 = F64.pzero := rfl
@[simp] theorem resetOf_PHASE (c : Config) (k : Nat) : (State.resetOf c k).PHASE = .configured := rfl
@[simp] theorem resetOf_ERR (c : Config) (k : Nat) : (State.resetOf c k).ERR = false := rfl
@[simp] theorem resetOf_ECAUSE (c : Config) (k : Nat) : (State.resetOf c k).ECAUSE = none := rfl
@[simp] theorem resetOf_inbox (c : Config) (k : Nat) : (State.resetOf c k).inbox = [] := rfl
@[simp] theorem resetOf_resp (c : Config) (k : Nat) : (State.resetOf c k).resp = none := rfl
@[simp] theorem resetOf_freeSeq (c : Config) (k : Nat) : (State.resetOf c k).freeSeq = k := rfl

/-! ## takeReset -/

@[simp] theorem takeReset_cfg (r : List Input) (s : State) : (takeReset r s).cfg = (State.resetOf s.cfg (s.freeSeq + 1)).cfg := rfl
@[simp] theorem takeReset_BUF (r : List Input) (s : State) : (takeReset r s).BUF = (State.resetOf s.cfg (s.freeSeq + 1)).BUF := rfl
@[simp] theorem takeReset_CURSOR (r : List Input) (s : State) : (takeReset r s).CURSOR = (State.resetOf s.cfg (s.freeSeq + 1)).CURSOR := rfl
@[simp] theorem takeReset_S (r : List Input) (s : State) : (takeReset r s).S = (State.resetOf s.cfg (s.freeSeq + 1)).S := rfl
@[simp] theorem takeReset_G (r : List Input) (s : State) : (takeReset r s).G = (State.resetOf s.cfg (s.freeSeq + 1)).G := rfl
@[simp] theorem takeReset_B (r : List Input) (s : State) : (takeReset r s).B = (State.resetOf s.cfg (s.freeSeq + 1)).B := rfl
@[simp] theorem takeReset_SR (r : List Input) (s : State) : (takeReset r s).SR = (State.resetOf s.cfg (s.freeSeq + 1)).SR := rfl
@[simp] theorem takeReset_DT_S (r : List Input) (s : State) : (takeReset r s).DT_S = (State.resetOf s.cfg (s.freeSeq + 1)).DT_S := rfl
@[simp] theorem takeReset_LC_S (r : List Input) (s : State) : (takeReset r s).LC_S = (State.resetOf s.cfg (s.freeSeq + 1)).LC_S := rfl
@[simp] theorem takeReset_CC (r : List Input) (s : State) : (takeReset r s).CC = (State.resetOf s.cfg (s.freeSeq + 1)).CC := rfl
@[simp] theorem takeReset_TA0 (r : List Input) (s : State) : (takeReset r s).TA0 = (State.resetOf s.cfg (s.freeSeq + 1)).TA0 := rfl
@[simp] theorem takeReset_TA1 (r : List Input) (s : State) : (takeReset r s).TA1 = (State.resetOf s.cfg (s.freeSeq + 1)).TA1 := rfl
@[simp] theorem takeReset_TX1 (r : List Input) (s : State) : (takeReset r s).TX1 = (State.resetOf s.cfg (s.freeSeq + 1)).TX1 := rfl
@[simp] theorem takeReset_TX2 (r : List Input) (s : State) : (takeReset r s).TX2 = (State.resetOf s.cfg (s.freeSeq + 1)).TX2 := rfl
@[simp] theorem takeReset_DA0 (r : List Input) (s : State) : (takeReset r s).DA0 = (State.resetOf s.cfg (s.freeSeq + 1)).DA0 := rfl
@[simp] theorem takeReset_DA1 (r : List Input) (s : State) : (takeReset r s).DA1 = (State.resetOf s.cfg (s.freeSeq + 1)).DA1 := rfl
@[simp] theorem takeReset_DB1 (r : List Input) (s : State) : (takeReset r s).DB1 = (State.resetOf s.cfg (s.freeSeq + 1)).DB1 := rfl
@[simp] theorem takeReset_DU1 (r : List Input) (s : State) : (takeReset r s).DU1 = (State.resetOf s.cfg (s.freeSeq + 1)).DU1 := rfl
@[simp] theorem takeReset_DY1 (r : List Input) (s : State) : (takeReset r s).DY1 = (State.resetOf s.cfg (s.freeSeq + 1)).DY1 := rfl
@[simp] theorem takeReset_PHASE (r : List Input) (s : State) : (takeReset r s).PHASE = (State.resetOf s.cfg (s.freeSeq + 1)).PHASE := rfl
@[simp] theorem takeReset_ERR (r : List Input) (s : State) : (takeReset r s).ERR = (State.resetOf s.cfg (s.freeSeq + 1)).ERR := rfl
@[simp] theorem takeReset_ECAUSE (r : List Input) (s : State) : (takeReset r s).ECAUSE = (State.resetOf s.cfg (s.freeSeq + 1)).ECAUSE := rfl
@[simp] theorem takeReset_inbox (r : List Input) (s : State) : (takeReset r s).inbox = r := rfl
@[simp] theorem takeReset_resp (r : List Input) (s : State) : (takeReset r s).resp = (State.resetOf s.cfg (s.freeSeq + 1)).resp := rfl
@[simp] theorem takeReset_freeSeq (r : List Input) (s : State) : (takeReset r s).freeSeq = (State.resetOf s.cfg (s.freeSeq + 1)).freeSeq := rfl

end Sys2Proof.Machine
end

