-- ==== Sys2Proof/Laws/Ops.lean ====
section
/-! SUPPORT. What the shared operations can do, said once: the delay buffer and its canonical form, the one sample of a
STEP, the answers of the setters, and what a step takes from the inputs. -/

namespace Sys2Proof.Machine

/-! ## The delay buffer -/

theorem Memory.read_cons (i : Nat) (v : F64) (m : Memory) (j : Nat) (h : ∀ c ∈ m, i ≠ c.1) :
    Memory.read (Memory.cons i v m) j = if i = j then v else Memory.read m j := by
  unfold Memory.cons
  by_cases hv : v = F64.pzero
  · rw [if_pos hv]
    by_cases hij : i = j
    · subst hij
      rw [if_pos rfl, hv]
      induction m with
      | nil => rfl
      | cons c rest ih =>
        have hc : i ≠ c.1 := h c (by simp)
        unfold Memory.read
        rw [if_neg (fun e => hc e.symm)]
        exact ih (fun d hd => h d (by simp [hd]))
    · rw [if_neg hij]
  · rw [if_neg hv]
    rfl

/-- Reading after a write (20 R61): the word written at its index, every other word as before. -/
theorem Memory.read_write (m : Memory) (i : Nat) (v : F64) (j : Nat)
    (h : m.Pairwise (fun a b => a.1 < b.1)) :
    Memory.read (Memory.write m i v) j = if i = j then v else Memory.read m j := by
  induction m with
  | nil => exact Memory.read_cons i v [] j (by simp)
  | cons c rest ih =>
    obtain ⟨k, w⟩ := c
    rw [List.pairwise_cons] at h
    unfold Memory.write
    by_cases h1 : i < k
    · rw [if_pos h1]
      apply Memory.read_cons
      intro d hd
      rcases List.mem_cons.mp hd with rfl | hd
      · exact Nat.ne_of_lt h1
      · have := h.1 d hd
        simp only at this
        omega
    · rw [if_neg h1]
      by_cases h2 : i = k
      · subst h2
        rw [if_pos rfl, Memory.read_cons i v rest j
          (fun d hd => Nat.ne_of_lt (h.1 d hd))]
        by_cases hij : i = j
        · rw [if_pos hij, if_pos hij]
        · rw [if_neg hij, if_neg hij]
          conv_rhs => unfold Memory.read
          rw [if_neg hij]
      · rw [if_neg h2]
        unfold Memory.read
        rw [ih h.2]
        by_cases hkj : k = j
        · rw [if_pos hkj]
          rw [if_neg (by omega)]
          rw [if_pos hkj]
        · rw [if_neg hkj, if_neg hkj]

/-- Every index a write leaves was there before, or is the one written. -/
theorem Memory.mem_write {m : Memory} {i : Nat} {v : F64} {c : Nat × F64} (h : c ∈ Memory.write m i v) :
    (c = (i, v) ∧ v ≠ F64.pzero) ∨ c ∈ m := by
  have cons_case : ∀ r : Memory, c ∈ Memory.cons i v r → (c = (i, v) ∧ v ≠ F64.pzero) ∨ c ∈ r := by
    intro r hr
    unfold Memory.cons at hr
    split at hr
    · exact Or.inr hr
    · rcases List.mem_cons.mp hr with rfl | hr
      · exact Or.inl ⟨rfl, by assumption⟩
      · exact Or.inr hr
  induction m with
  | nil => exact cons_case [] h
  | cons d rest ih =>
    unfold Memory.write at h
    split at h
    · exact cons_case _ h
    · split at h
      · rcases cons_case _ h with h | h
        · exact Or.inl h
        · exact Or.inr (by simp [h])
      · rcases List.mem_cons.mp h with rfl | h
        · exact Or.inr (by simp)
        · rcases ih h with h | h
          · exact Or.inl h
          · exact Or.inr (by simp [h])

/-- A write keeps the canonical form. -/
theorem Memory.write_wf {m : Memory} (h : m.wf) (i : Nat) (v : F64) : (Memory.write m i v).wf := by
  constructor
  · have cons_case : ∀ r : Memory, r.Pairwise (fun a b => a.1 < b.1) → (∀ c ∈ r, i < c.1) →
        (Memory.cons i v r).Pairwise (fun a b => a.1 < b.1) := by
      intro r hr hi
      unfold Memory.cons
      split
      · exact hr
      · exact List.pairwise_cons.mpr ⟨hi, hr⟩
    obtain ⟨h, -⟩ := h
    induction m with
    | nil => exact cons_case [] List.Pairwise.nil (by simp)
    | cons d rest ih =>
      obtain ⟨k, w⟩ := d
      have hp := List.pairwise_cons.mp h
      unfold Memory.write
      split
      · rename_i hik
        apply cons_case _ h
        intro c hc
        rcases List.mem_cons.mp hc with rfl | hc
        · exact hik
        · exact Nat.lt_trans hik (hp.1 c hc)
      · split
        · rename_i _ hik
          subst hik
          exact cons_case _ hp.2 hp.1
        · rename_i h1 h2
          apply List.pairwise_cons.mpr
          refine ⟨?_, ih hp.2⟩
          intro c hc
          rcases Memory.mem_write hc with ⟨rfl, _⟩ | hc
          · simp only
            omega
          · exact hp.1 c hc
  · intro c hc
    rcases Memory.mem_write hc with ⟨rfl, hv⟩ | hc
    · exact hv
    · exact h.2 c hc

theorem Memory.nil_wf : Memory.wf [] := ⟨List.Pairwise.nil, by simp⟩

/-- Reset and CLEAR leave the canonical form (10_state.md R21). -/
theorem reset_bufWf : State.reset.BUF.wf := Memory.nil_wf

/-- A tap index is an index of the buffer (20 R62). -/
theorem tapIndex_lt (cursor o : Nat) {len : Nat} (h : 0 < len) : tapIndex cursor o len < len := by
  unfold tapIndex
  have h1 := Int.emod_lt_of_pos ((cursor : Int) - (o : Int)) (by exact_mod_cast h : (0 : Int) < (len : Int))
  have h2 := Int.emod_nonneg ((cursor : Int) - (o : Int)) (by omega : (len : Int) ≠ 0)
  omega

theorem Config.len_pos (c : Config) : 0 < c.len := by
  unfold Config.len Config.maxDelay
  omega

/-! ## The one sample of a STEP -/

/-- All that `oneSample` can answer. -/
theorem oneSample_cases (ν : NanSeed) (e : F64) (w : List F64) (dt : Nat) (a : F64 × F64) (s : State) :
    (s.CURSOR < s.cfg.len ∧
      oneSample ν e w dt a s =
        .next (respond false (sampleOf ν e w dt a s).y (storeSample (sampleOf ν e w dt a s) s))) ∨
    (s.cfg.len ≤ s.CURSOR ∧ oneSample ν e w dt a s = .fault (.bufIndex s.CURSOR)) := by
  unfold oneSample
  by_cases h : s.CURSOR < s.cfg.len
  · exact Or.inl ⟨h, by rw [if_pos h]⟩
  · exact Or.inr ⟨Nat.le_of_not_lt h, by rw [if_neg h]⟩

theorem oneSample_of_cursor {s : State} (h : s.CURSOR < s.cfg.len) (ν : NanSeed) (e : F64) (w : List F64) (dt : Nat)
    (a : F64 × F64) :
    oneSample ν e w dt a s =
      .next (respond false (sampleOf ν e w dt a s).y (storeSample (sampleOf ν e w dt a s) s)) := by
  unfold oneSample
  rw [if_pos h]

/-- If `oneSample` answers a next state, it is the stored sample with its response. -/
theorem oneSample_next {ν : NanSeed} {e : F64} {w : List F64} {dt : Nat} {a : F64 × F64} {s t : State}
    (h : oneSample ν e w dt a s = .next t) :
    s.CURSOR < s.cfg.len ∧
      t = respond false (sampleOf ν e w dt a s).y (storeSample (sampleOf ν e w dt a s) s) := by
  rcases oneSample_cases ν e w dt a s with ⟨hc, he⟩ | ⟨_, he⟩
  · rw [he] at h
    exact ⟨hc, (Host.Outcome.next.inj h).symm⟩
  · rw [he] at h
    exact absurd h (by simp)

/-! ## The meanings as one sample or one answer -/

theorem exec_stepA (e : F64) (s : State) :
    exec (.stepA e) s = oneSample (s.seed.site 0) e s.LC_S s.DT_S (s.TA0, s.TA1) s := rfl

theorem exec_stepB (e d : F64) (s : State) :
    exec (.stepB e d) s =
      oneSample (s.seed.site 0) e (modWeights d s) (modSplit d s).dt (modTone s.G d s) s := rfl

theorem exec_stepC (e g d : F64) (s : State) :
    exec (.stepC e g d) s =
      oneSample (s.seed.site 0) e (modWeights d s) (modSplit d s).dt (modTone (gainArg s.cfg g) d s) s := rfl

/-- GET answers the register's value, or is rejected with cause 4 (42 R166). -/
theorem exec_get_cases (reg : Reg) (s : State) :
    (∃ v, regValue s reg = some v ∧ exec (.get reg) s = .next (respond false v s)) ∨
    (regValue s reg = none ∧ exec (.get reg) s = .next (reject .badSelector s)) := by
  change _ ∨ (_ ∧ execGet reg s = _)
  unfold execGet
  cases h : regValue s reg with
  | none => exact Or.inr ⟨rfl, rfl⟩
  | some v => exact Or.inl ⟨v, rfl, by simp [exec, execGet, h]⟩

/-- SET_SR is rejected with cause 5 or stores (42 R164). -/
theorem exec_setSr_cases (r : F64) (s : State) :
    (badSampleRate r = true ∧ exec (.setSr r) s = .next (reject .badSampleRate s)) ∨
    (badSampleRate r = false ∧
      exec (.setSr r) s = .next (respond false 0#64 (storeRate r (dcCoef (s.seed.site 5) r) s))) := by
  change (_ ∧ execSetSr r s = _) ∨ (_ ∧ execSetSr r s = _)
  unfold execSetSr done
  cases h : badSampleRate r with
  | true => exact Or.inl ⟨rfl, rfl⟩
  | false => exact Or.inr ⟨rfl, rfl⟩

/-! ## What a step takes -/

/-- All that a step can do. -/
theorem step_cases (s : State) :
    (s.cfg.valid = false ∧ step s = .refused .notElaborated) ∨
    (s.cfg.valid = true ∧ s.inbox = [] ∧ step s = .next s) ∨
    (s.cfg.valid = true ∧ ∃ f rest, s.inbox = .reset f :: rest ∧ step s = .next (takeReset rest s)) ∨
    (s.cfg.valid = true ∧ s.PHASE = .uninitialized ∧ (∃ t rest, s.inbox = .command t :: rest) ∧
      step s = .refused .beforeFirstReset) ∨
    (s.cfg.valid = true ∧ s.PHASE ≠ .uninitialized ∧ ∃ t rest, s.inbox = .command t :: rest ∧
      ((∃ i, decode s.cfg t = .ok i ∧ step s = exec i (accept rest s)) ∨
        ∃ c, decode s.cfg t = .error c ∧ step s = .next (reject c (accept rest s)))) := by
  unfold step fetch
  cases hv : s.cfg.valid with
  | false => exact Or.inl ⟨rfl, by simp⟩
  | true =>
    right
    cases hi : s.inbox with
    | nil => exact Or.inl ⟨rfl, rfl, by simp⟩
    | cons x rest =>
      right
      cases x with
      | reset f => exact Or.inl ⟨rfl, f, rest, rfl, by simp⟩
      | command t =>
        right
        by_cases hp : s.PHASE = .uninitialized
        · exact Or.inl ⟨rfl, hp, ⟨t, rest, rfl⟩, by simp [hp]⟩
        · refine Or.inr ⟨rfl, hp, t, rest, rfl, ?_⟩
          cases hd : decode s.cfg t with
          | ok i => exact Or.inl ⟨i, rfl, by simp [hp, hd]⟩
          | error c => exact Or.inr ⟨c, rfl, by simp [hp, hd]⟩

end Sys2Proof.Machine
end

