-- ==== Sys2Proof/Laws/PerInstr.lean ====
section
/-! SUPPORT. Statements for all commands, one lemma per constructor of Instr. Family EncodedFields: the three fields of
the command word the encoder writes (30_encoding.md R81, R83, R85). -/

namespace Sys2Proof

/-- The fields of a command word put together from its parts. -/
theorem cmd_fields (a : BitVec 8) (b : BitVec 4) :
    cmdRsv (0#20 ++ a ++ b) = 0#20 ∧ cmdSel (0#20 ++ a ++ b) = a ∧ cmdOp (0#20 ++ a ++ b) = b := by
  have hw : (0#20 ++ a ++ b).toNat = a.toNat * 16 + b.toNat := by
    rw [BitVec.toNat_append, BitVec.toNat_append, ← Nat.shiftLeft_add_eq_or_of_lt b.isLt]
    simp [Nat.shiftLeft_eq]
  have ha := a.isLt
  have hb := b.isLt
  refine ⟨?_, ?_, ?_⟩ <;> apply BitVec.eq_of_toNat_eq <;>
    simp only [cmdRsv, cmdSel, cmdOp, BitVec.extractLsb'_toNat, hw, Nat.shiftRight_eq_div_pow] <;>
    simp <;> omega

namespace Laws.EncodedFields

/-- RSV is zero, OP is the command's opcode, and SEL is zero for every command but GET, where it is the register's
selector. -/
def Statement (i : Instr) : Prop :=
  cmdRsv (encode i).cmd = 0#20 ∧ cmdSel (encode i).cmd = i.selField ∧ cmdOp (encode i).cmd = i.op

theorem nop : Statement .nop := cmd_fields _ _
theorem setDelay (a : F64) : Statement (.setDelay a) := cmd_fields _ _
theorem setGain (g : F64) : Statement (.setGain g) := cmd_fields _ _
theorem setBright (b : F64) : Statement (.setBright b) := cmd_fields _ _
theorem setSr (r : F64) : Statement (.setSr r) := cmd_fields _ _
theorem clear : Statement .clear := cmd_fields _ _
theorem stepA (e : F64) : Statement (.stepA e) := cmd_fields _ _
theorem stepB (e d : F64) : Statement (.stepB e d) := cmd_fields _ _
theorem stepC (e g d : F64) : Statement (.stepC e g d) := cmd_fields _ _
theorem get (reg : Reg) : Statement (.get reg) := cmd_fields _ _

end Laws.EncodedFields

end Sys2Proof
end

