-- ==== Sys2Proof/Tests/Slice0.lean ====
section
/-! SUPPORT. Tests of the model: vectors of 95_test_vectors.md and examples of the rules (the expected values are the
spec's), a smoke test of each well-formedness check, the words of the encodings, and for every statement with
hypotheses a state and operands that meet them. -/

set_option Elab.async false

namespace Sys2Proof.Tests

open Sys2Proof Sys2Proof.Machine

/-! ## WellFormed: an ill-formed term for each check -/

/-- The standard configuration with another order. -/
def order (n : Nat) : Config := { Config.standard with n := n }

theorem test_standard_config_valid : Config.standard.valid = true := by decide +kernel
theorem test_config_even_order_refused : (order 4).valid = false := by decide +kernel
theorem test_config_order_zero_refused : (order 0).valid = false := by decide +kernel
theorem test_config_order_17_refused : (order 17).valid = false := by decide +kernel
theorem test_config_max_delay_refused :
    ({ Config.standard with maxDelayReq := 2 ^ 24 + 1 } : Config).valid = false := by decide +kernel
theorem test_config_gain_zero_refused :
    ({ Config.standard with maxGain := 0#64 } : Config).valid = false := by decide +kernel
theorem test_config_gain_one_refused :
    ({ Config.standard with maxGain := 0x3FF0000000000000#64 } : Config).valid = false := by decide +kernel
theorem test_get_lc_beyond_order_refused : (Instr.get (.lc 4)).wellFormed Config.standard = false := by
  decide +kernel
theorem test_get_cc_beyond_order_refused : (Instr.get (.cc 4)).wellFormed Config.standard = false := by
  decide +kernel
theorem test_get_lc_of_order_5 : (Instr.get (.lc 5)).wellFormed (order 5) = true := by decide +kernel

/-- V-W8, V-W9: derived parameters of N = 1 and N = 5; X9: the floor of 8192. -/
theorem test_params_order_1 : ((order 1).h, (order 1).minDelay, (order 1).len) = (0, 3, 8193) := by decide +kernel
theorem test_params_order_5 : ((order 5).h, (order 5).minDelay, (order 5).len) = (2, 4, 8195) := by decide +kernel
theorem test_params_standard : (Config.standard.maxDelay, Config.standard.len, Config.standard.cw) =
    (8192, 8194, 14) := by decide +kernel

/-! ## Decoding: words written out from 30_encoding.md R83, R89 -/

def word (c : CmdWord) : Transaction := ⟨c, 0x4010000000000000#64, 0xBFE0000000000000#64, 0x4012000000000000#64⟩
def dec (c : CmdWord) : Except Cause Instr := decode Config.standard (word c)

/-- What the decoder answers, as data with decidable equality. -/
def answer (c : CmdWord) : Option Instr × Option Cause :=
  match dec c with
  | .ok i => (some i, none)
  | .error e => (none, some e)

theorem test_decode_nop : answer 0b0000#32 = (some .nop, none) := by decide +kernel
theorem test_decode_setDelay : answer 0b0001#32 = (some (.setDelay 0x4010000000000000#64), none) := by
  decide +kernel
theorem test_decode_setGain : answer 0b0010#32 = (some (.setGain 0x4010000000000000#64), none) := by decide +kernel
theorem test_decode_setBright : answer 0b0011#32 = (some (.setBright 0x4010000000000000#64), none) := by
  decide +kernel
theorem test_decode_setSr : answer 0b0100#32 = (some (.setSr 0x4010000000000000#64), none) := by decide +kernel
theorem test_decode_clear : answer 0b0101#32 = (some .clear, none) := by decide +kernel
theorem test_decode_stepA : answer 0b0110#32 = (some (.stepA 0x4010000000000000#64), none) := by decide +kernel
theorem test_decode_stepB :
    answer 0b0111#32 = (some (.stepB 0x4010000000000000#64 0x4012000000000000#64), none) := by decide +kernel
theorem test_decode_stepC :
    answer 0b1000#32 = (some (.stepC 0x4010000000000000#64 0xBFE0000000000000#64 0x4012000000000000#64), none) := by
  decide +kernel
theorem test_decode_get_g : answer 0b00000010_1001#32 = (some (.get .g), none) := by decide +kernel
theorem test_decode_get_cc3 : answer 0b00100011_1001#32 = (some (.get (.cc 3)), none) := by decide +kernel
theorem test_decode_get_maxGain : answer 0x00000359#32 = (some (.get .cfgMaxGain), none) := by decide +kernel

/-- V-E1 to V-E10: the causes and their priority. -/
theorem test_reject_reserved_opcode : answer 0x0000000A#32 = (none, some .reservedOpcode) := by decide +kernel
theorem test_reject_priority : answer 0x0000100F#32 = (none, some .reservedOpcode) := by decide +kernel
theorem test_reject_reserved_bit_12 : answer 0x00001001#32 = (none, some .reservedBits) := by decide +kernel
theorem test_reject_reserved_bit_31 : answer 0x80000006#32 = (none, some .reservedBits) := by decide +kernel
theorem test_reject_sel_on_setDelay : answer 0x00000011#32 = (none, some .selNotZero) := by decide +kernel
theorem test_reject_get_lc4 : answer 0x00000149#32 = (none, some .badSelector) := by decide +kernel
theorem test_reject_get_36 : answer 0x00000369#32 = (none, some .badSelector) := by decide +kernel
theorem test_reject_get_ff : answer 0x00000FF9#32 = (none, some .badSelector) := by decide +kernel

theorem test_encode_stepC :
    encode (.stepC 0x3FF0000000000000#64 0xBFE0000000000000#64 0x4010000000000000#64) =
      ⟨0x00000008#32, 0x3FF0000000000000#64, 0xBFE0000000000000#64, 0x4010000000000000#64⟩ := by decide +kernel
theorem test_encode_get : encode (.get .g) = ⟨0x00000029#32, 0#64, 0#64, 0#64⟩ := by decide +kernel

/-! ## The assembler (R89) -/

theorem test_asm_stepC : Asm.line "STEP.C 1.0, -0.5, 4.0".toList =
    some ⟨8#32, 0x3FF0000000000000#64, 0xBFE0000000000000#64, 0x4010000000000000#64⟩ := by decide +kernel
theorem test_asm_exponent : Asm.line "SET.DELAY 1e9".toList = some ⟨1#32, 0x41CDCD6500000000#64, 0#64, 0#64⟩ := by
  decide +kernel
theorem test_asm_rounds : Asm.line "SET.GAIN 0.9999".toList = some ⟨2#32, 0x3FEFFF2E48E8A71E#64, 0#64, 0#64⟩ := by
  decide +kernel
theorem test_asm_raw : Asm.line "SET.SR f64:0x7FF8000000000000".toList =
    some ⟨4#32, 0x7FF8000000000000#64, 0#64, 0#64⟩ := by decide +kernel
/-- The operands of V-SR8, V-SR9 and V-SR7. -/
theorem test_asm_infinities : Asm.line "SET.SR +inf".toList = some ⟨4#32, 0x7FF0000000000000#64, 0#64, 0#64⟩ ∧
    Asm.line "SET.SR -inf".toList = some ⟨4#32, 0xFFF0000000000000#64, 0#64, 0#64⟩ := by decide +kernel
theorem test_asm_nan : (Asm.operand ['N', 'a', 'N']).map F64.isNaN = some true := by
  rw [show Asm.operand ['N', 'a', 'N'] = some (F64.nan ⟨0, []⟩) from rfl]
  simp
theorem test_asm_get_name : Asm.line "GET LC_S[3]".toList = some ⟨0x139#32, 0#64, 0#64, 0#64⟩ := by decide +kernel
theorem test_asm_word : Asm.line ".word 0x0000000F, 0, 0, 0".toList = some ⟨0xF#32, 0#64, 0#64, 0#64⟩ := by
  decide +kernel
theorem test_pseudo_gain_without_delay :
    (Pseudo.process 1 [0#64] (some [0#64]) none).expand = none := by decide +kernel
theorem test_adapter_low_byte_first :
    (adapterBytes 0x3FEFF45850D440D5#64).head? = some 0xD5#8 := by decide +kernel

/-! ## Arithmetic: worked corners of IEEE 754 -/

def z : NanSeed := ⟨0, []⟩

/-- `0.1 + 0.2 = 0.30000000000000004` -/
theorem test_add_rounds :
    F64.add z 0x3FB999999999999A#64 0x3FC999999999999A#64 = 0x3FD3333333333334#64 := by decide +kernel
/-- `x - x = +0.0` -/
theorem test_sub_to_positive_zero : F64.sub z 0x3FF0000000000000#64 0x3FF0000000000000#64 = 0#64 := by
  decide +kernel
theorem test_add_negative_zeros :
    F64.add z 0x8000000000000000#64 0x8000000000000000#64 = 0x8000000000000000#64 := by decide +kernel
/-- The smallest subnormal times one half is a tie, to even: zero. -/
theorem test_mul_subnormal_tie : F64.mul z 1#64 0x3FE0000000000000#64 = 0#64 := by decide +kernel
theorem test_mul_overflow :
    F64.mul z 0x7FEFFFFFFFFFFFFF#64 0xC000000000000000#64 = 0xFFF0000000000000#64 := by decide +kernel
theorem test_div_by_zero : F64.div z 0x3FF0000000000000#64 0x8000000000000000#64 = 0xFFF0000000000000#64 := by
  decide +kernel
/-- `1.0 / 3.0` -/
theorem test_div_rounds :
    F64.div z 0x3FF0000000000000#64 0x4008000000000000#64 = 0x3FD5555555555555#64 := by decide +kernel
theorem test_inf_minus_inf_is_nan (ν : NanSeed) : F64.isNaN (F64.sub ν (F64.inf false) (F64.inf false)) = true := by
  have h : F64.sub ν (F64.inf false) (F64.inf false) = F64.nan ν := by
    unfold F64.sub F64.add
    rw [if_neg (by decide +kernel), if_pos (by decide +kernel), if_pos (by decide +kernel)]
  rw [h]
  exact F64.isNaN_nan ν
theorem test_lt_zeros : F64.lt 0x8000000000000000#64 0#64 = false := by decide +kernel

/-! ## Function vectors (95, section 2) -/

/-- V-C1, V-C3, V-C7, V-C8, V-C12, V-C10: in range, below, +inf, NaN, rounding-free subtraction, the bound itself. -/
theorem test_delayArg_in_range :
    delayArg z Config.standard 0x4010000000000000#64 = 0x4008000000000000#64 := by decide +kernel
theorem test_delayArg_below : delayArg z Config.standard 0x4004000000000000#64 = 0x4000000000000000#64 := by
  decide +kernel
theorem test_delayArg_inf : delayArg z Config.standard 0x7FF0000000000000#64 = 0x40BFFF0000000000#64 := by
  decide +kernel
theorem test_delayArg_nan : delayArg z Config.standard 0x7FF8000000000000#64 = 0x4000000000000000#64 := by
  decide +kernel
theorem test_delayArg_exact : delayArg z Config.standard 0x400D99999999999A#64 = 0x400599999999999A#64 := by
  decide +kernel
theorem test_delayArg_at_max : delayArg z Config.standard 0x40C0000000000000#64 = 0x40BFFF0000000000#64 := by
  decide +kernel
/-- V-C15, V-C17, V-C18, V-C23 -/
theorem test_gainArg_below : gainArg Config.standard 0xC000000000000000#64 = 0xBFEFFF2E48E8A71E#64 := by
  decide +kernel
theorem test_gainArg_negative_zero : gainArg Config.standard 0x8000000000000000#64 = 0x8000000000000000#64 := by
  decide +kernel
theorem test_gainArg_nan : gainArg Config.standard 0xFFF8000000000001#64 = 0#64 := by decide +kernel
/-- V-C24, V-C25, V-C28 -/
theorem test_brightArg_below : brightArg Config.standard 0xBFF0000000000000#64 = 0#64 := by decide +kernel
theorem test_brightArg_negative_zero :
    brightArg Config.standard 0x8000000000000000#64 = 0x8000000000000000#64 := by decide +kernel
theorem test_brightArg_above : brightArg Config.standard 0x3FF0000000000000#64 = 0x3FEFFF2E48E8A71E#64 := by
  decide +kernel

/-- V-SP3, V-SP7, V-SP9 -/
theorem test_split_3_5 : split z Config.standard 0x400C000000000000#64 = ⟨2, 0x3FF8000000000000#64⟩ := by
  decide +kernel
theorem test_split_largest : split z Config.standard 0x40BFFF0000000000#64 = ⟨8190, 0x3FF0000000000000#64⟩ := by
  decide +kernel
theorem test_split_below_3 : split z Config.standard 0x4007FFFFFFFFFFFF#64 = ⟨1, 0x3FFFFFFFFFFFFFFE#64⟩ := by
  decide +kernel

def ccStandard : List F64 :=
  [0xBFC5555555555555#64, 0x3FE0000000000000#64, 0xBFE0000000000000#64, 0x3FC5555555555555#64]

/-- V-W4: `P = 1.75`, where the two weight sets differ in the last tap. -/
theorem test_staticWeights_1_75 : staticWeights z 3 0x3FFC000000000000#64 =
    [0xBFA4000000000000#64, 0x3FD1800000000000#64, 0x3FEA400000000000#64, 0xBFAC000000000000#64] := by
  decide +kernel
theorem test_dynamicWeights_1_75 : dynamicWeights z 3 ccStandard 0x3FFC000000000000#64 =
    [0xBFA4000000000000#64, 0x3FD1800000000000#64, 0x3FEA400000000000#64, 0xBFABFFFFFFFFFFFF#64] := by
  decide +kernel
/-- V-W8, V-W9 -/
theorem test_ccInit_order_1 : ccInit z 1 = [0xBFF0000000000000#64, 0x3FF0000000000000#64] := by decide +kernel
theorem test_staticWeights_order_1 :
    staticWeights z 1 0x3FE0000000000000#64 = [0x3FE0000000000000#64, 0x3FE0000000000000#64] := by decide +kernel

/-- V-T1, V-T4, V-T6, V-T7, V-T9 with the cosine the table gives. -/
theorem test_omega0 : omega0 z 0x4008000000000000#64 = 0x3FF921FB54442D18#64 := by decide +kernel
theorem test_tone_V_T1 : toneFrom z 0x3C91A62633145C07#64 0x3FE0000000000000#64 0x3FE0000000000000#64 =
    (0x3FC0000000000000#64, 0x3FE0000000000000#64) := by decide +kernel
theorem test_tone_clamp_V_T4 : toneFrom z 0x3C91A62633145C07#64 0xBFE0000000000000#64 0x3FE0000000000000#64 =
    (0#64, 0xBFE0000000000000#64) := by decide +kernel
theorem test_tone_negative_zero_V_T6 :
    toneFrom z 0x3C91A62633145C07#64 0x8000000000000000#64 0x3FE0000000000000#64 =
      (0#64, 0x8000000000000000#64) := by decide +kernel
theorem test_tone_V_T7 : toneFrom z 0xBFDFFFFFFFFFFFFC#64 0x3FE0000000000000#64 0x3FE0000000000000#64 =
    (0x3FCFFFFFFFFFFFFC#64, 0x3FE7FFFFFFFFFFFE#64) := by decide +kernel
theorem test_tone_V_T9 : toneFrom z 0x3FC63A1A7E0B738C#64 0x3FECCCCCCCCCCCCD#64 0x3FD3333333333333#64 =
    (0x3FD12D5D91183F4F#64, 0x3FE9D1349B55AFF3#64) := by decide +kernel

/-- V-D2, V-D5 -/
theorem test_dcCoef_48000 : dcCoef z 0x40E7700000000000#64 =
    ⟨0x3FEFF54A6C54AD66#64, 0xBFEFF54A6C54AD66#64, 0x3FEFEA94D8A95ACB#64⟩ := by decide +kernel
theorem test_dcCoef_1 : dcCoef z 0x3FF0000000000000#64 =
    ⟨0x3F900ACA2D23B07C#64, 0xBF900ACA2D23B07C#64, 0xBFEEFF535D2DC4F7#64⟩ := by decide +kernel

/-! ## Commands (95, section 3)

`fresh` is the reset state with the tone coefficients the spec gives it (10_state.md R41), which depend on COS in the
model. -/

def fresh : State := { State.reset with TA0 := 0#64, TA1 := 0#64 }

/-- One field of the next state. -/
def after {α : Type} (o : Result) (f : State → α) : Option α :=
  match o with
  | .next t => some (f t)
  | .fault _ => none
  | .refused _ => none

theorem test_nop : after (exec .nop fresh) (fun t => (t.resp, t.PHASE)) = some (some ⟨false, 0#64⟩, .configured) := by
  decide +kernel
/-- V-SD1, V-SD2 -/
theorem test_setDelay_4 : after (exec (.setDelay 0x4010000000000000#64) fresh) (fun t => (t.S, t.DT_S, t.LC_S)) =
    some (0x4008000000000000#64, 2,
      [0x8000000000000000#64, 0x3FF0000000000000#64, 0#64, 0x8000000000000000#64]) := by decide +kernel
theorem test_setDelay_1e9 : after (exec (.setDelay 0x41CDCD6500000000#64) fresh) (fun t => (t.S, t.DT_S)) =
    some (0x40BFFF0000000000#64, 8190) := by decide +kernel
/-- P2 -/
theorem test_setGain_2 : after (exec (.setGain 0x4000000000000000#64) fresh) (fun t => (t.G, t.B)) =
    some (0x3FEFFF2E48E8A71E#64, 0#64) := by decide +kernel
/-- V-SB1 -/
theorem test_setBright_negative_zero :
    after (exec (.setBright 0x8000000000000000#64) fresh) (fun t => (t.B, t.G)) =
      some (0x8000000000000000#64, 0#64) := by decide +kernel
/-- V-SR1, V-SR4 -/
theorem test_setSr_48000 : after (exec (.setSr 0x40E7700000000000#64) fresh) (fun t => (t.SR, t.DB1, t.ERR)) =
    some (0x40E7700000000000#64, 0x3FEFEA94D8A95ACB#64, false) := by decide +kernel
theorem test_setSr_below_one :
    after (exec (.setSr 0x3FEFFFFFFFFFFFFF#64) fresh) (fun t => (t.SR, t.ECAUSE, t.resp)) =
      some (0x40E5888000000000#64, some .badSampleRate, some ⟨true, 0#64⟩) := by decide +kernel

/-- A state with history: two written words, cursor 2, running. -/
def played : State :=
  { fresh with
    BUF := [(0, 0x3FF0000000000000#64), (1, 0x4000000000000000#64)], CURSOR := 2
    TX1 := 0x3FF0000000000000#64, TX2 := 0x4000000000000000#64
    DU1 := 0x3FF0000000000000#64, DY1 := 0x4000000000000000#64, PHASE := .running, ERR := true
    ECAUSE := some .selNotZero }

theorem test_clear_audio : after (exec .clear played) (fun t => (t.BUF, t.CURSOR, t.TX1, t.DY1)) =
    some ([], 0, 0#64, 0#64) := by decide +kernel
/-- V-E11: CLEAR keeps ERR and ECAUSE. -/
theorem test_clear_status :
    after (exec .clear played) (fun t => (t.PHASE, t.ERR, t.ECAUSE)) = some (.cleared, true, some .selNotZero) := by
  decide +kernel
/-- V-S1 -/
theorem test_stepA_impulse :
    after (exec (.stepA 0x3FF0000000000000#64) fresh) (fun t => (t.resp, t.CURSOR, t.DU1, t.BUF)) =
      some (some ⟨false, 0x3FEFF45850D440D5#64⟩, 1, 0x3FF0000000000000#64, [(0, 0x3FEFF45850D440D5#64)]) := by
  decide +kernel
/-- R141: the cursor wraps from `L-1` to 0. -/
theorem test_stepA_wraps :
    after (exec (.stepA 0x3FF0000000000000#64) { fresh with CURSOR := 8193 }) (fun t => (t.CURSOR, t.PHASE)) =
      some (0, .running) := by decide +kernel
/-- P1, step 3: `y = 0x3FBF2F8CC11A675F`. The state before it is P1's after step 2, from the vectors and R113. -/
theorem test_stepA_P1_step_3 :
    after (exec (.stepA 0#64)
      { fresh with
        S := 0x4008000000000000#64, DT_S := 2, TA0 := 0x3FC0000000000000#64, TA1 := 0x3FE0000000000000#64
        BUF := [(0, 0x3FEFF45850D440D5#64), (1, 0xBF6746E0E941FF00#64), (2, 0xBF6735EC3BFF3E70#64)]
        CURSOR := 3, DU1 := 0#64, DY1 := 0xBF6735EC3BFF3E70#64 })
      (fun t => t.resp) = some (some ⟨false, 0x3FBF2F8CC11A675F#64⟩) := by decide +kernel
/-- V-S2 and V-S3: the per-sample split, weights and gain of Modes B and C; their tone coefficients depend on COS. -/
theorem test_stepB_split : modSplit 0x4012000000000000#64 fresh = ⟨2, 0x3FF8000000000000#64⟩ := by decide +kernel
theorem test_stepB_weights : modWeights 0x4012000000000000#64 fresh =
    [0xBFB0000000000000#64, 0x3FE2000000000000#64, 0x3FE2000000000000#64, 0xBFB0000000000000#64] := by
  decide +kernel
theorem test_stepB_keeps_static :
    after (exec (.stepB 0x3FF0000000000000#64 0x4012000000000000#64) fresh) (fun t => (t.S, t.DT_S, t.CURSOR)) =
      some (0x4000000000000000#64, 1, 1) := by decide +kernel
theorem test_stepC_keeps_gain :
    after (exec (.stepC 0x3FF0000000000000#64 0xBFE0000000000000#64 0x4010000000000000#64) fresh)
      (fun t => (t.G, t.TA1, t.CURSOR)) = some (0#64, 0#64, 1) := by decide +kernel
/-- V-R1 and V-E11: STATUS and a constant register. -/
theorem test_get_status : after (exec (.get .status) played) (fun t => t.resp) = some (some ⟨false, 0x231#64⟩) := by
  decide +kernel
theorem test_get_cfgL : after (exec (.get .cfgL) fresh) (fun t => t.resp) = some (some ⟨false, 0x2002#64⟩) := by
  decide +kernel

/-- A whole step: a rejected word, then an accepted one (V-E5: no sample is taken). -/
theorem test_step_rejects :
    after (step (fresh.withFetchWord 32 0x80000006)) (fun t => (t.ECAUSE, t.resp, t.CURSOR, t.inbox)) =
      some (some .reservedBits, some ⟨true, 0#64⟩, 0, []) := by decide +kernel
theorem test_step_runs :
    after (step (fresh.withFetchWord 96 (0x3FF0000000000000 * 2 ^ 32 + 6))) (fun t => (t.resp, t.inbox)) =
      some (some ⟨false, 0x3FEFF45850D440D5#64⟩, []) := by decide +kernel
theorem test_step_reset_input :
    after (step { played with inbox := [.reset (some (word 6))] }) (fun t => (t.BUF, t.ERR, t.resp)) =
      some ([], false, none) := by decide +kernel

/-! ## Witnesses: for each statement with hypotheses, a state and operands that meet all of them -/

theorem witness_OpenLoopToneIsZero :
    F64.isFinite 0#64 = true ∧ F64.lt (F64.neg F64.one) 0#64 = true := by decide +kernel

/-- The reset state with inputs pending meets the invariant. -/
def waiting (l : List Input) : State := { State.reset with inbox := l }

theorem reset_parameters :
    State.reset.cfg.valid = true ∧ State.reset.CURSOR < State.reset.cfg.len ∧
    F64.le (F64.ofNat (State.reset.cfg.minDelay - 1)) State.reset.S = true ∧
    F64.le State.reset.S (F64.ofNat (State.reset.cfg.maxDelay - 1)) = true ∧
    F64.le (F64.neg State.reset.cfg.maxGain) State.reset.G = true ∧
    F64.le State.reset.G State.reset.cfg.maxGain = true ∧
    F64.le F64.pzero State.reset.B = true ∧ F64.le State.reset.B State.reset.cfg.maxGain = true ∧
    F64.isFinite State.reset.SR = true ∧ F64.le F64.one State.reset.SR = true := by decide +kernel

theorem witness_invariant (l : List Input) : (waiting l).Inv :=
  have ⟨hv, hc, h1, h2, h3, h4, h5, h6, h7, h8⟩ := reset_parameters
  { cfgValid := hv
    started := by simp [waiting, State.reset]
    bufWf := Memory.nil_wf
    bufRange := by simp [waiting, State.reset]
    cursorRange := hc
    delayLow := h1
    delayHigh := h2
    gainLow := h3
    gainHigh := h4
    brightLow := h5
    brightHigh := h6
    rateFinite := h7
    rateLow := h8
    delayCache := ⟨z.site 1, z.site 2, rfl, rfl⟩
    toneCache := ⟨z.site 3, rfl⟩
    dcCache := ⟨z.site 4, rfl⟩
    factorCache := ⟨z.site 5, rfl⟩
    causeErr := by simp [waiting, State.reset]
    rejectedData := by simp [waiting, State.reset] }

theorem witness_DecodeOfEncodeIsIdentity : (Instr.get (.lc 3)).wellFormed Config.standard = true := by decide +kernel

theorem witness_AcceptedWordsAreTheTable :
    answer 0x00000009#32 = (some (.get .status), none) ∧
    (⟨"GET", 0x00000009#32, 0xFFFFF00F#32⟩ : OpRow) ∈ opTable ∧
    OpRow.accepts ⟨"GET", 0x00000009#32, 0xFFFFF00F#32⟩ 0x00000359#32 = true ∧
    (Reg.ofSel Config.standard (cmdSel 0x00000359#32)).isSome = true := by decide +kernel

/-- Two different transactions of STEP_B that differ in the lane it ignores. -/
theorem witness_IgnoredLanesHaveNoEffect :
    (word 7).cmd = ({ word 7 with opb := 0#64 } : Transaction).cmd ∧
    readLanes (word 7) = readLanes { word 7 with opb := 0#64 } ∧
    word 7 ≠ { word 7 with opb := 0#64 } := by decide +kernel

def nopPending : State := waiting [.command ⟨0#32, 0#64, 0#64, 0#64⟩]

theorem nopPending_valid : nopPending.cfg.valid = true ∧ nopPending.PHASE ≠ .uninitialized := by
  constructor
  · decide +kernel
  · simp [nopPending, waiting, State.reset]

theorem witness_StepRunsTheDecodedCommand :
    nopPending.cfg.valid = true ∧ nopPending.PHASE ≠ .uninitialized ∧
    nopPending.inbox = [.command ⟨0#32, 0#64, 0#64, 0#64⟩] ∧
    decode nopPending.cfg ⟨0#32, 0#64, 0#64, 0#64⟩ = .ok .nop ∧
    decode nopPending.cfg (Transaction.ofTableWord 32 0) = .ok .nop :=
  ⟨nopPending_valid.1, nopPending_valid.2, rfl, rfl, rfl⟩

theorem witness_RejectionChangesOnlyErrAndCause :
    nopPending.cfg.valid = true ∧ nopPending.PHASE ≠ .uninitialized ∧
    (waiting [.command (word 0xA)]).inbox = [.command (word 0xA)] ∧
    decode nopPending.cfg (word 0xA) = .error .reservedOpcode ∧
    F64.isNaN 0x7FF8000000000000#64 = true ∧ F64.isInf 0x7FF0000000000000#64 = true ∧
    F64.lt 0x3FEFFFFFFFFFFFFF#64 F64.one = true :=
  ⟨nopPending_valid.1, nopPending_valid.2, rfl, rfl, by decide +kernel, by decide +kernel, by decide +kernel⟩

theorem witness_IdleCoreHoldsItsState : State.reset.cfg.valid = true ∧ State.reset.inbox = [] :=
  ⟨by decide +kernel, rfl⟩

theorem witness_ResetFromAnyState :
    (waiting [.reset (some (word 6))]).cfg.valid = true ∧
    (waiting [.reset (some (word 6))]).inbox = [.reset (some (word 6))] := ⟨by decide +kernel, rfl⟩

def cold (x : Input) : State := { waiting [x] with PHASE := .uninitialized }

theorem witness_CommandBeforeResetIsRefused (x : Input) :
    (cold x).cfg.valid = true ∧ (cold x).PHASE = .uninitialized ∧ (cold x).inbox = [x] :=
  ⟨show Config.standard.valid = true by decide +kernel, rfl, rfl⟩

theorem witness_EveryCommandIsAnsweredOnce :
    nopPending.cfg.valid = true ∧ nopPending.PHASE ≠ .uninitialized ∧ nopPending.CURSOR < nopPending.cfg.len ∧
    nopPending.inbox = [.command ⟨0#32, 0#64, 0#64, 0#64⟩] :=
  ⟨nopPending_valid.1, nopPending_valid.2, by decide +kernel, rfl⟩

theorem witness_InvariantHoldsAtEveryReset : (order 15).valid = true ∧ (order 1).valid = true := by decide +kernel

theorem step_nopPending : step nopPending = .next (respond false 0#64 (accept [] nopPending)) := by
  rcases step_cases nopPending with ⟨h, _⟩ | ⟨_, h, _⟩ | ⟨_, f, r, h, _⟩ | ⟨_, h, _⟩ | ⟨_, _, t, r, h, h'⟩
  · rw [nopPending_valid.1] at h
    exact absurd h (by decide)
  · exact absurd h (by simp [nopPending, waiting])
  · exact absurd h (by simp [nopPending, waiting])
  · exact absurd h nopPending_valid.2
  · simp only [nopPending, waiting, List.cons.injEq, Input.command.injEq] at h
    obtain ⟨rfl, rfl⟩ := h
    rcases h' with ⟨i, hi, hs⟩ | ⟨c, hc, _⟩
    · cases hi
      exact hs
    · exact absurd hc (by intro h; cases h)

theorem witness_EveryStepKeepsTheInvariant : nopPending.Inv ∧ ∃ t, step nopPending = .next t :=
  ⟨witness_invariant _, _, step_nopPending⟩

theorem witness_QueuedCommandsRunInOrder :
    (waiting (commandsOf [.nop, .get (.lc 3), .stepA 0#64])).cfg.valid = true ∧
    (waiting (commandsOf [.nop, .get (.lc 3), .stepA 0#64])).PHASE ≠ .uninitialized ∧
    (∀ i ∈ [Instr.nop, .get (.lc 3), .stepA 0#64], i.wellFormed Config.standard = true) ∧
    (waiting (commandsOf [.nop, .get (.lc 3), .stepA 0#64])).inbox =
      commandsOf [.nop, .get (.lc 3), .stepA 0#64] ++ [] :=
  ⟨nopPending_valid.1, nopPending_valid.2, by decide +kernel, rfl⟩

theorem witness_GetReadsTheSelectedRegister :
    fresh.LC_S[3]? = some 0x8000000000000000#64 ∧ fresh.CC[0]? = some 0xBFC5555555555555#64 ∧ 3 ≤ fresh.cfg.n := by
  decide +kernel

theorem witness_GetHasNoSideEffect : Reg.assigned fresh.cfg (.lc 3) = true ∧ Reg.assigned fresh.cfg .status = true := by
  decide +kernel

/-- The clauses of SET_DELAY at the ends of their ranges: NaN, just below MIN_DELAY, the two bounds, just above. -/
theorem witness_SetDelayStoresClampedDelay :
    fresh.cfg.valid = true ∧ F64.isNaN 0x7FF8000000000000#64 = true ∧
    F64.lt 0x4007FFFFFFFFFFFF#64 fresh.cfg.minDelayF = true ∧
    F64.le fresh.cfg.minDelayF 0x4008000000000000#64 = true ∧
    F64.le 0x40C0000000000000#64 fresh.cfg.maxDelayF = true ∧
    F64.lt fresh.cfg.maxDelayF 0x40C0000000000001#64 = true := by decide +kernel

theorem witness_SetGainClampsAndRetunes :
    fresh.cfg.valid = true ∧ F64.isNaN 0xFFF8000000000000#64 = true ∧
    F64.lt 0xBFEFFF2E48E8A71F#64 (F64.neg fresh.cfg.maxGain) = true ∧
    F64.le (F64.neg fresh.cfg.maxGain) 0xBFEFFF2E48E8A71E#64 = true ∧
    F64.le 0x3FEFFF2E48E8A71E#64 fresh.cfg.maxGain = true ∧
    F64.lt fresh.cfg.maxGain 0x3FEFFF2E48E8A71F#64 = true := by decide +kernel

theorem witness_SetBrightClampsAndRetunes :
    fresh.cfg.valid = true ∧ F64.lt 0x8000000000000001#64 0#64 = true ∧ F64.le 0#64 0x8000000000000000#64 = true ∧
    F64.le 0x3FEFFF2E48E8A71E#64 fresh.cfg.maxGain = true ∧
    F64.lt fresh.cfg.maxGain 0x3FEFFF2E48E8A71F#64 = true := by decide +kernel

theorem witness_SetSampleRateStoresCoefficients :
    F64.isFinite 0x3FF0000000000000#64 = true ∧ F64.le F64.one 0x3FF0000000000000#64 = true ∧
    F64.isFinite 0x7FEFFFFFFFFFFFFF#64 = true ∧ F64.le F64.one 0x7FEFFFFFFFFFFFFF#64 = true := by decide +kernel

/-- Two instances with the same parameters and different histories. -/
theorem witness_ClearForgetsTheHistory :
    SameSetup fresh played ∧ fresh.freeSeq = played.freeSeq ∧ isStep (.stepA F64.one) = true :=
  ⟨⟨⟨rfl, rfl, rfl⟩, rfl, rfl, ⟨rfl, rfl⟩, ⟨rfl, rfl, rfl, rfl⟩, ⟨rfl, rfl⟩⟩, rfl, rfl⟩

theorem witness_SetterOrderDoesNotMatter :
    let is : List Instr := [.setGain F64.one, .setDelay F64.two, .setGain F64.two]
    let js : List Instr := [.setDelay F64.two, .setGain F64.two]
    (waiting []).Inv ∧ is.all isParamSetter = true ∧ js.all isParamSetter = true ∧
    lastDelay is = lastDelay js ∧ lastGain is = lastGain js ∧ lastBright is = lastBright js :=
  ⟨witness_invariant _, by decide +kernel⟩

/-- For StepAIsOneSample, StepBIsOneSample, StepCIsOneSample, StepShiftsTheDelayLine and NanRecirculates: a state with
history, with the cursor on the last word. -/
theorem witness_steps :
    ({ played with CURSOR := 8193 } : State).CURSOR < played.cfg.len ∧ played.BUF.wf ∧
    isStep (.stepB 0x7FF8000000000000#64 0#64) = true ∧ F64.isNaN 0x7FF8000000000000#64 = true := by
  decide +kernel

/-- A NaN in the word of tap 0 of STEP_A, and of tap 0 of a STEP_B at the shortest delay. -/
def nanTap : State := { fresh with BUF := [(8193, 0x7FF8000000000000#64)] }

theorem witness_NanRecirculates :
    nanTap.CURSOR < nanTap.cfg.len ∧ nanTap.BUF.wf ∧ 0 < nanTap.LC_S.length ∧
    F64.isNaN (readAt nanTap (nanTap.DT_S + 0)) = true ∧
    F64.isNaN (readAt nanTap ((split z nanTap.cfg (delayArg z nanTap.cfg 0#64)).dt + 0)) = true ∧
    F64.isNaN ({ fresh with TX2 := 0x7FF8000000000000#64 } : State).TX2 = true := by decide +kernel

theorem witness_TapOffsetsStayInTheBuffer :
    Config.standard.valid = true ∧
    F64.le (F64.ofNat (Config.standard.minDelay - 1)) 0x4000000000000000#64 = true ∧
    F64.le 0x4000000000000000#64 (F64.ofNat (Config.standard.maxDelay - 1)) = true ∧
    F64.le (F64.ofNat (Config.standard.minDelay - 1)) 0x40BFFF0000000000#64 = true ∧
    F64.le 0x40BFFF0000000000#64 (F64.ofNat (Config.standard.maxDelay - 1)) = true := by decide +kernel

theorem fresh_weights_finite : fresh.LC_S.all F64.isFinite = true := by decide +kernel

theorem witness_SilenceIsPreserved :
    fresh.CURSOR < fresh.cfg.len ∧ fresh.BUF.wf ∧ Silent fresh ∧ F64.isZero 0x8000000000000000#64 = true ∧
    (∀ x ∈ fresh.LC_S, F64.isFinite x = true) ∧ F64.isFinite fresh.TA0 = true ∧ F64.isFinite fresh.TA1 = true ∧
    F64.isFinite fresh.DA0 = true ∧ F64.isFinite fresh.DA1 = true ∧ F64.isFinite fresh.DB1 = true :=
  have h : F64.isZero F64.pzero = true ∧ F64.isFinite F64.pzero = true := by decide +kernel
  ⟨by decide +kernel, Memory.nil_wf, ⟨fun _ => h.1, h.1, h.1, h.1, h.1⟩, by decide +kernel,
    List.all_eq_true.mp fresh_weights_finite, h.2, h.2, by decide +kernel, by decide +kernel, by decide +kernel⟩

/-- At the delay argument 4.5 the two weight sets agree bit for bit (V-W2). -/
theorem witness_ModesAgreeWhereWeightsAgree :
    (waiting []).Inv ∧ ∃ ν₁ ν₂ ν₃ ν₄, sameList
      (staticWeights ν₁ 3 (split ν₂ Config.standard (delayArg ν₃ Config.standard 0x4012000000000000#64)).p)
      (dynamicWeights ν₄ 3 State.reset.CC
        (split ν₂ Config.standard (delayArg ν₃ Config.standard 0x4012000000000000#64)).p) := by
  refine ⟨witness_invariant _, z, z, z, z, ?_⟩
  have h : staticWeights z 3 (split z Config.standard (delayArg z Config.standard 0x4012000000000000#64)).p =
      dynamicWeights z 3 State.reset.CC
        (split z Config.standard (delayArg z Config.standard 0x4012000000000000#64)).p := by decide +kernel
  rw [h]
  exact List.forall₂_same.mpr (fun x _ => F64.same_refl x)

theorem witness_BlockIsItsSteps :
    (waiting []).Inv ∧ (Pseudo.process 2 [F64.one, 0#64] none (some [F64.two, F64.two])).expand =
      some [.stepB F64.one F64.two, .stepB 0#64 F64.two] := ⟨witness_invariant _, by decide +kernel⟩

theorem witness_PseudoInstructionsExpand :
    1 ≤ [F64.one].length ∧ (0 : Nat) < 1 ∧ [F64.one][0]? = some F64.one := by decide +kernel

/-- For the whole-machine rules: a step that completes, of a command that is no STEP, CLEAR or setter. -/
theorem witness_whole_machine_rules :
    (∃ t, step nopPending = .next t) ∧ (∀ f rest, nopPending.inbox ≠ .reset f :: rest) ∧
    nopPending.inbox = [.command ⟨0#32, 0#64, 0#64, 0#64⟩] ∧
    ∀ i, decode nopPending.cfg ⟨0#32, 0#64, 0#64, 0#64⟩ = .ok i → isStep i = false ∧ i ≠ .clear :=
  ⟨⟨_, step_nopPending⟩, by simp [nopPending, waiting], rfl, by intro i h; cases h; exact ⟨rfl, by decide⟩⟩

theorem witness_RoundingIsNearestEven :
    (0 : Nat) < 3 ∧ F64.roundMag 10 3 < F64.infMag ∧ 4 < F64.infMag ∧ 4 ≠ F64.roundMag 10 3 ∧
    F64.roundMag 5 2 = 2 ∧
    |(F64.scaledMag (F64.roundMag 5 2) : Int) * 2 - 5| = |(F64.scaledMag 3 : Int) * 2 - 5| := by decide +kernel

theorem witness_OperationsRoundToNearest :
    F64.isFinite F64.one = true ∧ F64.isFinite (F64.neg F64.two) = true ∧
    F64.isFinite (F64.add z F64.one (F64.neg F64.two)) = true ∧
    F64.isFinite (F64.div z F64.one (F64.neg F64.two)) = true ∧ F64.isZero (F64.neg F64.two) = false := by
  decide +kernel

/-- The largest finite value and half a unit in its last place meet the bound exactly; a smaller addend does not. -/
theorem witness_OperationsOverflowAtTheBound :
    F64.isFinite 0x7FEFFFFFFFFFFFFF#64 = true ∧ F64.isFinite 0x7C90000000000000#64 = true ∧
    |F64.value 0x7FEFFFFFFFFFFFFF#64 + F64.value 0x7C90000000000000#64| = F64.overflowAt ∧
    |F64.value 0x7FEFFFFFFFFFFFFF#64 + F64.value 0x7C8FFFFFFFFFFFFF#64| < F64.overflowAt ∧
    F64.isZero 0x7C90000000000000#64 = false := by decide +kernel
theorem test_add_overflow_tie :
    F64.add z 0x7FEFFFFFFFFFFFFF#64 0x7C90000000000000#64 = F64.inf false ∧
    F64.add z 0x7FEFFFFFFFFFFFFF#64 0x7C8FFFFFFFFFFFFF#64 = 0x7FEFFFFFFFFFFFFF#64 := by decide +kernel

/-- `2^-537` times `2^-538` is half the smallest subnormal, a tie; `2^-537` times itself is that subnormal. -/
theorem witness_ZeroResultsAndTheirSigns :
    F64.isFinite 0x1E60000000000000#64 = true ∧ F64.isFinite 0x9E50000000000000#64 = true ∧
    2 * |F64.value 0x1E60000000000000#64 * F64.value 0x9E50000000000000#64| = F64.unit ∧
    F64.value F64.one - F64.value F64.one = 0 ∧ F64.isZero F64.one = false := by decide +kernel
theorem test_mul_underflow_tie :
    F64.mul z 0x1E60000000000000#64 0x9E50000000000000#64 = F64.zero true ∧
    F64.mul z 0x1E60000000000000#64 0x1E60000000000000#64 = 0x0000000000000001#64 := by decide +kernel

theorem witness_NonFiniteOperands :
    F64.isInf 0xFFF0000000000000#64 = true ∧ F64.isNaN 0x7FF0000000000001#64 = true ∧
    F64.isFinite F64.one = true ∧ F64.isZero F64.one = false ∧ F64.isZero (F64.zero true) = true := by decide +kernel

theorem witness_ComparisonsCompareValues :
    F64.isFinite (F64.zero true) = true ∧ F64.isFinite 0#64 = true ∧ F64.isNaN 0x7FF8000000000000#64 = true := by
  decide +kernel

theorem witness_ClampingPrimitive :
    F64.le (F64.neg F64.one) 0#64 = true ∧ F64.le 0#64 F64.one = true ∧
    F64.lt (F64.neg F64.two) (F64.neg F64.one) = true ∧ F64.lt F64.one F64.two = true ∧
    F64.isFinite (F64.neg F64.one) = true ∧ F64.isFinite F64.one = true := by decide +kernel

theorem witness_StabilityClamp :
    F64.lt 0xBFC0000000000000#64 0#64 = true ∧ F64.lt 0x8000000000000000#64 0#64 = false := by decide +kernel

end Sys2Proof.Tests
end

/-! SUPPORT. Proofs of the family 00_scope, part 1: the rounding of Machine/Float.lean (O47, O48). -/

namespace Sys2Proof.F64

/-! ## Magnitudes in binades

A magnitude is `q * 2 ^ 52 + j`: the unit in the last place is `2 ^ q` and `j` counts these units (`j < 2 ^ 52` only
in the subnormals, where `q = 0`; `j = 2 ^ 53` is the first value of the next binade). -/

theorem scaledMag_subnormal {m : Nat} (h : m < 2 ^ 52) : scaledMag m = m := by
  unfold scaledMag
  simp only [Nat.div_eq_of_lt h, Nat.mod_eq_of_lt h, if_pos]

theorem scaledMag_normal {e f : Nat} (hf : f < 2 ^ 52) :
    scaledMag ((e + 1) * 2 ^ 52 + f) = (2 ^ 52 + f) * 2 ^ e := by
  have hdiv : ((e + 1) * 2 ^ 52 + f) / 2 ^ 52 = e + 1 := by omega
  have hmod : ((e + 1) * 2 ^ 52 + f) % 2 ^ 52 = f := by omega
  unfold scaledMag
  simp only [hdiv, hmod, Nat.add_sub_cancel, if_neg (Nat.succ_ne_zero e)]

/-- A magnitude of the binade with the unit `2 ^ q` is as many units as its significand says. -/
theorem scaledMag_binade {q j : Nat} (hq : q = 0 ∨ 2 ^ 52 ≤ j) (hj : j ≤ 2 ^ 53) :
    scaledMag (q * 2 ^ 52 + j) = j * 2 ^ q := by
  rcases Nat.lt_or_ge j (2 ^ 52) with hsub | hnorm
  · obtain rfl : q = 0 := by omega
    rw [Nat.zero_mul, Nat.zero_add, scaledMag_subnormal hsub, pow_zero, Nat.mul_one]
  rcases Nat.eq_or_lt_of_le hj with rfl | hlt
  · have h := scaledMag_normal (e := q + 1) (f := 0) (by decide)
    rw [Nat.add_zero, Nat.add_zero, pow_succ 2 q] at h
    rw [show q * 2 ^ 52 + 2 ^ 53 = (q + 1 + 1) * 2 ^ 52 by omega, h]
    omega
  · have h := scaledMag_normal (e := q) (f := j - 2 ^ 52) (by omega)
    rwa [show (q + 1) * 2 ^ 52 + (j - 2 ^ 52) = q * 2 ^ 52 + j by omega, Nat.add_sub_cancel' hnorm] at h

theorem exists_binade (m : Nat) : ∃ q j, m = q * 2 ^ 52 + j ∧ (q = 0 ∨ 2 ^ 52 ≤ j) ∧ j < 2 ^ 53 :=
  ⟨m / 2 ^ 52 - 1, m - (m / 2 ^ 52 - 1) * 2 ^ 52, by omega, by omega, by omega⟩

/-- A greater magnitude pattern is a greater value. -/
theorem scaledMag_strictMono : StrictMono scaledMag := by
  refine strictMono_nat_of_lt_succ fun m => ?_
  obtain ⟨q, j, rfl, hq, hj⟩ := exists_binade m
  rw [scaledMag_binade hq hj.le, Nat.add_assoc, scaledMag_binade (by omega) hj]
  exact Nat.mul_lt_mul_of_pos_right (Nat.lt_succ_self j) (Nat.two_pow_pos q)

theorem scaledMag_eq_zero {m : Nat} : scaledMag m = 0 ↔ m = 0 :=
  scaledMag_strictMono.injective.eq_iff' (by decide)

/-! ## The point where the rounding turns

Whether a rounding answers more than the magnitude `k` is decided by the middle of `k` and `k + 1` alone, and every law
of the rounding follows from that. -/

/-- Twice the middle of the magnitudes `k` and `k + 1`, which is a whole number of units. -/
def twiceMid (k : Nat) : Nat := scaledMag k + scaledMag (k + 1)

theorem twiceMid_binade {q j : Nat} (hq : q = 0 ∨ 2 ^ 52 ≤ j) (hj : j < 2 ^ 53) :
    twiceMid (q * 2 ^ 52 + j) = (2 * j + 1) * 2 ^ q := by
  unfold twiceMid
  rw [scaledMag_binade hq hj.le, Nat.add_assoc, scaledMag_binade (j := j + 1) (by omega) hj]
  ring

theorem two_mul_scaledMag_lt_twiceMid {m k : Nat} (h : m ≤ k) : 2 * scaledMag m < twiceMid k := by
  have hm : scaledMag m ≤ scaledMag k := scaledMag_strictMono.monotone h
  have hk : scaledMag k < scaledMag (k + 1) := scaledMag_strictMono k.lt_add_one
  unfold twiceMid
  omega

theorem twiceMid_lt_two_mul_scaledMag {m k : Nat} (h : k < m) : twiceMid k < 2 * scaledMag m := by
  have hm : scaledMag (k + 1) ≤ scaledMag m := scaledMag_strictMono.monotone h
  have hk : scaledMag k < scaledMag (k + 1) := scaledMag_strictMono k.lt_add_one
  unfold twiceMid
  omega

theorem twiceMid_zero : twiceMid 0 = 1 := by decide

/-- The middle of the largest finite magnitude and the infinity's is the overflow bound. -/
theorem twiceMid_last : twiceMid (infMag - 1) = 2 * ((2 ^ 54 - 1) * 2 ^ 2044) := by
  have h : infMag - 1 = 2045 * 2 ^ 52 + (2 ^ 53 - 1) := by decide
  rw [h, twiceMid_binade (by omega) (by omega), pow_succ 2 2044]
  generalize 2 ^ 2044 = u
  omega

/-- Whether the value `n / d` lies above the middle of `k` and `k + 1`, or on it with `k` odd. -/
def RoundsAbove (n d k : Nat) : Prop := twiceMid k * d < 2 * n ∨ twiceMid k * d = 2 * n ∧ k % 2 = 1

/-- A value from the magnitude `m` on lies above the middles below `m`. -/
theorem roundsAbove_of_lt {n d m k : Nat} (hd : 0 < d) (hn : scaledMag m * d ≤ n) (hk : k < m) :
    RoundsAbove n d k := by
  have h : twiceMid k * d < 2 * scaledMag m * d :=
    Nat.mul_lt_mul_of_pos_right (twiceMid_lt_two_mul_scaledMag hk) hd
  exact .inl (by rw [Nat.mul_assoc] at h; omega)

/-- A value up to the magnitude `m` does not reach the middles above `m`. -/
theorem not_roundsAbove_of_le {n d m k : Nat} (hd : 0 < d) (hn : n ≤ scaledMag m * d) (hk : m ≤ k) :
    ¬ RoundsAbove n d k := by
  have h : 2 * scaledMag m * d < twiceMid k * d :=
    Nat.mul_lt_mul_of_pos_right (two_mul_scaledMag_lt_twiceMid hk) hd
  rw [Nat.mul_assoc] at h
  unfold RoundsAbove
  omega

/-! ## The rounding -/

theorem lt_roundNat_iff {n d : Nat} (hd : 0 < d) (j : Nat) :
    j < roundNat n d ↔ (2 * j + 1) * d < 2 * n ∨ (2 * j + 1) * d = 2 * n ∧ j % 2 = 1 := by
  have hn := Nat.div_add_mod n d
  have hr := Nat.mod_lt n hd
  unfold roundNat
  generalize n / d = q at *
  generalize n % d = r at *
  dsimp only
  rcases Nat.lt_trichotomy j q with h | rfl | h
  · have : (2 * j + 1) * d + d ≤ 2 * (d * q) := by nlinarith
    split_ifs <;> omega
  · have : (2 * j + 1) * d = 2 * (d * j) + d := by ring
    split_ifs <;> omega
  · have : 2 * (d * q) + 3 * d ≤ (2 * j + 1) * d := by nlinarith
    split_ifs <;> omega

theorem le_roundNat {n d j : Nat} (hd : 0 < d) (h : j * d ≤ n) : j ≤ roundNat n d := by
  rcases j with _ | j
  · exact Nat.zero_le _
  · refine (lt_roundNat_iff hd j).mpr (.inl ?_)
    nlinarith

theorem roundNat_le {n d j : Nat} (hd : 0 < d) (h : n ≤ j * d) : roundNat n d ≤ j := by
  refine Nat.le_of_not_lt fun hlt => ?_
  rcases (lt_roundNat_iff hd j).mp hlt with h' | ⟨h', -⟩ <;> nlinarith

/-- The rounding before it is cut at the infinity answers more than `k` exactly from the middle of `k` and `k + 1` on.
Within the binade of `n / d` this is `lt_roundNat_iff`; below and above it both sides are plain. -/
theorem lt_unbounded_iff {n d q : Nat} (hd : 0 < d) (hlow : q = 0 ∨ 2 ^ 52 * (d * 2 ^ q) ≤ n)
    (hhigh : n < 2 ^ 53 * (d * 2 ^ q)) (k : Nat) :
    k < q * 2 ^ 52 + roundNat n (d * 2 ^ q) ↔ RoundsAbove n d k := by
  have hD : 0 < d * 2 ^ q := Nat.mul_pos hd (Nat.two_pow_pos q)
  have hround := lt_roundNat_iff (n := n) hD
  by_cases hbelow : 0 < q ∧ k < q * 2 ^ 52 + 2 ^ 52
  · have hn : scaledMag (q * 2 ^ 52 + 2 ^ 52) * d ≤ n := by
      rw [scaledMag_binade (by omega) (by omega), Nat.mul_assoc, Nat.mul_comm _ d]
      omega
    have hr := le_roundNat hD (hlow.resolve_left (by omega))
    exact iff_of_true (by omega) (roundsAbove_of_lt hd hn hbelow.2)
  by_cases habove : q * 2 ^ 52 + 2 ^ 53 ≤ k
  · have hn : n ≤ scaledMag (q * 2 ^ 52 + 2 ^ 53) * d := by
      rw [scaledMag_binade (by omega) le_rfl, Nat.mul_assoc, Nat.mul_comm _ d]
      omega
    have hr := roundNat_le hD hhigh.le
    exact iff_of_false (by omega) (not_roundsAbove_of_le hd hn habove)
  · obtain ⟨j, rfl⟩ := Nat.exists_eq_add_of_le (show q * 2 ^ 52 ≤ k by omega)
    have hmid : twiceMid (q * 2 ^ 52 + j) * d = (2 * j + 1) * (d * 2 ^ q) := by
      rw [twiceMid_binade (by omega) (by omega)]
      ring
    have hparity : (q * 2 ^ 52 + j) % 2 = j % 2 := by omega
    rw [RoundsAbove, hmid, hparity, Nat.add_lt_add_iff_left, hround]

/-- The unit in the last place that `roundMag` picks is that of the binade of `n / d`. -/
theorem binade_of_log2 {n d : Nat} (hd : 0 < d) {q : Nat} (hq : q = Nat.log2 (n / d) - 52) :
    (q = 0 ∨ 2 ^ 52 * (d * 2 ^ q) ≤ n) ∧ n < 2 ^ 53 * (d * 2 ^ q) := by
  constructor
  · by_cases h0 : q = 0
    · exact .inl h0
    · have hne : n / d ≠ 0 := by
        intro h
        rw [h, Nat.log2_zero, Nat.zero_sub] at hq
        exact h0 hq
      have h := Nat.log2_self_le hne
      rw [show Nat.log2 (n / d) = 52 + q by omega, Nat.le_div_iff_mul_le hd, pow_add] at h
      exact .inr (by rwa [Nat.mul_comm d, ← Nat.mul_assoc])
  · have h : n / d < 2 ^ (53 + q) := Nat.lt_log2_self.trans_le (Nat.pow_le_pow_right Nat.two_pos (by omega))
    rw [Nat.div_lt_iff_lt_mul hd, pow_add] at h
    rwa [Nat.mul_comm d, ← Nat.mul_assoc]

/-- The law of the rounding: it answers more than the finite magnitude `k` exactly when `n / d` lies above the middle of
`k` and the next one, or on that middle with `k` odd. -/
theorem lt_roundMag_iff {n d : Nat} (hd : 0 < d) {k : Nat} (hk : k < infMag) :
    k < roundMag n d ↔ RoundsAbove n d k := by
  obtain ⟨hlow, hhigh⟩ := binade_of_log2 (n := n) hd rfl
  rw [← lt_unbounded_iff hd hlow hhigh]
  unfold roundMag
  dsimp only
  rw [lt_min_iff, and_iff_right hk]

theorem roundMag_eq_infMag_iff {n d : Nat} (hd : 0 < d) :
    roundMag n d = infMag ↔ (2 ^ 54 - 1) * 2 ^ 2044 * d ≤ n := by
  have hlast : roundMag n d = infMag ↔ infMag - 1 < roundMag n d := by
    have := roundMag_le n d
    have : 0 < infMag := by decide
    omega
  rw [hlast, lt_roundMag_iff hd (by decide), RoundsAbove, twiceMid_last, Nat.mul_assoc 2]
  have hodd : (infMag - 1) % 2 = 1 := by decide
  generalize (2 ^ 54 - 1) * 2 ^ 2044 * d = t
  omega

theorem roundMag_eq_zero_iff {n d : Nat} (hd : 0 < d) : roundMag n d = 0 ↔ 2 * n ≤ d := by
  rw [← Nat.le_zero, ← Nat.not_lt, lt_roundMag_iff hd (by decide), RoundsAbove, twiceMid_zero]
  omega

theorem roundMag_scaledMag {m d : Nat} (hm : m < infMag) (hd : 0 < d) : roundMag (scaledMag m * d) d = m := by
  have hle := not_roundsAbove_of_le hd (Nat.le_refl (scaledMag m * d)) (Nat.le_refl m)
  rw [← lt_roundMag_iff hd hm, Nat.not_lt] at hle
  refine Nat.le_antisymm hle (Nat.le_of_not_lt fun hlt => ?_)
  have h := roundsAbove_of_lt hd (Nat.le_refl (scaledMag m * d)) hlt
  rw [← lt_roundMag_iff hd (hlt.trans hm)] at h
  exact Nat.lt_irrefl _ h

/-- The value lies beyond the middle of the rounded magnitude and any smaller one, and on it only if rounded to even. -/
theorem twiceMid_le_of_lt_roundMag {n d m : Nat} (hd : 0 < d) (hm : m < roundMag n d) :
    scaledMag m * d + scaledMag (roundMag n d) * d ≤ 2 * n ∧
    (scaledMag m * d + scaledMag (roundMag n d) * d = 2 * n → roundMag n d % 2 = 0) := by
  have hle := roundMag_le n d
  have habove := (lt_roundMag_iff (n := n) hd (k := roundMag n d - 1) (by omega)).mp (by omega)
  have hmono : scaledMag m * d ≤ scaledMag (roundMag n d - 1) * d :=
    Nat.mul_le_mul_right d (scaledMag_strictMono.monotone (by omega))
  rw [RoundsAbove, twiceMid, Nat.sub_add_cancel (by omega), Nat.add_mul] at habove
  omega

/-- The value does not pass the middle of the rounded magnitude and any greater one, and reaches it only if rounded to
even. -/
theorem le_twiceMid_of_roundMag_lt {n d m : Nat} (hd : 0 < d) (hfin : roundMag n d < infMag) (hm : roundMag n d < m) :
    2 * n ≤ scaledMag m * d + scaledMag (roundMag n d) * d ∧
    (scaledMag m * d + scaledMag (roundMag n d) * d = 2 * n → roundMag n d % 2 = 0) := by
  have hbelow := mt (lt_roundMag_iff (n := n) hd hfin).mpr (Nat.lt_irrefl _)
  have hmono : scaledMag (roundMag n d + 1) * d ≤ scaledMag m * d :=
    Nat.mul_le_mul_right d (scaledMag_strictMono.monotone hm)
  rw [RoundsAbove, twiceMid, Nat.add_mul] at hbelow
  omega

/-- The far end of a stretch whose middle `t` does not pass is at least as far from `t`, and as far only at the middle. -/
theorem abs_sub_le_and_eq_of_middle {a b t : Int} (h : b < a ∧ b + a ≤ 2 * t ∨ a < b ∧ 2 * t ≤ b + a) :
    |a - t| ≤ |b - t| ∧ (|a - t| = |b - t| → b + a = 2 * t) := by
  have ha := abs_cases (a - t)
  have hb := abs_cases (b - t)
  omega

/-- No finite magnitude is nearer to `n / d` than the rounded one, and none is as near unless that one is even. -/
theorem roundMag_nearest {n d : Nat} (hd : 0 < d) (hfin : roundMag n d < infMag) (m : Nat) :
    |(scaledMag (roundMag n d) : Int) * d - n| ≤ |(scaledMag m : Int) * d - n| ∧
    (m ≠ roundMag n d → |(scaledMag (roundMag n d) : Int) * d - n| = |(scaledMag m : Int) * d - n| →
      roundMag n d % 2 = 0) := by
  rcases Nat.lt_trichotomy m (roundMag n d) with h | h | h
  · obtain ⟨hmid, heven⟩ := twiceMid_le_of_lt_roundMag hd h
    have hlt := Nat.mul_lt_mul_of_pos_right (scaledMag_strictMono h) hd
    have hnear := abs_sub_le_and_eq_of_middle (a := scaledMag (roundMag n d) * d) (b := scaledMag m * d) (t := n)
      (.inl (by norm_cast))
    exact ⟨hnear.1, fun _ heq => heven (by exact_mod_cast hnear.2 heq)⟩
  · exact ⟨by rw [h], fun hne => absurd h hne⟩
  · obtain ⟨hmid, heven⟩ := le_twiceMid_of_roundMag_lt hd hfin h
    have hlt := Nat.mul_lt_mul_of_pos_right (scaledMag_strictMono h) hd
    have hnear := abs_sub_le_and_eq_of_middle (a := scaledMag (roundMag n d) * d) (b := scaledMag m * d) (t := n)
      (.inr (by norm_cast))
    exact ⟨hnear.1, fun _ heq => heven (by exact_mod_cast hnear.2 heq)⟩

end Sys2Proof.F64

namespace Sys2Proof

/-- Settles O47: all from the law `F64.lt_roundMag_iff`, that the rounding turns at the middle of two neighbours. -/
theorem roundingIsNearestEven : Obligations.RoundingIsNearestEven := fun _ _ hd =>
  ⟨F64.roundMag_eq_infMag_iff hd, fun hfin m _ => F64.roundMag_nearest hd hfin m⟩

/-- Settles O48: a representable value lies strictly between the middles on its two sides. -/
theorem roundingKeepsRepresentableValues : Obligations.RoundingKeepsRepresentableValues := fun _ _ hm hd =>
  F64.roundMag_scaledMag hm hd

end Sys2Proof

/-! SUPPORT. Proofs of the family 00_scope, part 2: the operations on finite operands (O49 to O51). -/

namespace Sys2Proof.F64

/-! ## Signed values

A value is a sign and a whole number of units; every law of the operations is one of the rounding of the magnitude. -/

/-- The whole number with the given sign and magnitude. -/
def signed (neg : Bool) (n : Nat) : Int := if neg then -(n : Int) else n

theorem value_eq_signed (x : F64) : value x = signed (sign x) (scaled x) := rfl

theorem signed_natAbs (v : Int) : signed (decide (v < 0)) v.natAbs = v := by
  unfold signed
  by_cases h : v < 0
  · rw [if_pos (decide_eq_true h)]
    omega
  · rw [if_neg (by simpa using h)]
    omega

theorem abs_signed (s : Bool) (n : Nat) : |signed s n| = n := by
  cases s <;> simp [signed]

theorem signed_mul (s t : Bool) (m n : Nat) : signed s m * signed t n = signed (xor s t) (m * n) := by
  cases s <;> cases t <;> simp [signed]

theorem signed_mul_natCast (s : Bool) (m n : Nat) : signed s m * n = signed s (m * n) := by
  cases s <;> simp [signed]

theorem abs_signed_sub_signed (s : Bool) (m n : Nat) : |signed s m - signed s n| = |(m : Int) - n| := by
  cases s
  · rfl
  · rw [← abs_neg]
    congr 1
    simp [signed]
    omega

/-- Magnitudes are at most as far apart as the signed numbers. -/
theorem abs_sub_le_abs_signed_sub (s t : Bool) (m n : Nat) : |(m : Int) - n| ≤ |signed s m - signed t n| := by
  have h := abs_abs_sub_abs_le (signed s m) (signed t n)
  rwa [abs_signed, abs_signed] at h

theorem abs_value (x : F64) : |value x| = scaled x := abs_signed _ _

theorem scaled_eq_zero {x : F64} : scaled x = 0 ↔ mag x = 0 := scaledMag_eq_zero

theorem scaled_pos {x : F64} (h : isZero x = false) : 0 < scaled x := by
  rw [Nat.pos_iff_ne_zero, Ne, scaled_eq_zero]
  simpa [isZero] using h

theorem unit_pos : 0 < unit := by
  unfold unit
  generalize 1074 = k
  exact Nat.two_pow_pos k

/-! ## The rounded value of a signed ratio -/

theorem value_ofRatio (s : Bool) (n d : Nat) : value (ofRatio s n d) = signed s (scaledMag (roundMag n d)) := by
  rw [value_eq_signed, sign_ofRatio, scaled, mag_ofRatio]

/-- No finite pattern is nearer to `± n / d` than `ofRatio`. -/
theorem ofRatio_nearest {d : Nat} (hd : 0 < d) (s : Bool) (n : Nat) (x : F64)
    (hfin : isFinite (ofRatio s n d) = true) :
    |value (ofRatio s n d) * d - signed s n| ≤ |value x * d - signed s n| := by
  have hmag : roundMag n d < infMag := by simpa [isFinite] using hfin
  calc |value (ofRatio s n d) * d - signed s n|
      = |(scaledMag (roundMag n d) : Int) * d - n| := by
        rw [value_ofRatio, signed_mul_natCast, abs_signed_sub_signed, Nat.cast_mul]
    _ ≤ |(scaled x : Int) * d - n| := (roundMag_nearest hd hmag (mag x)).1
    _ ≤ |value x * d - signed s n| := by
        rw [value_eq_signed, signed_mul_natCast, ← Nat.cast_mul]
        exact abs_sub_le_abs_signed_sub _ _ _ _

theorem overflowAt_eq_natCast : overflowAt = ((2 ^ 54 - 1) * 2 ^ 2044 : Nat) := by
  have h54 : ((2 ^ 54 - 1 : Nat) : Int) = 2 ^ 54 - 1 := by decide
  rw [overflowAt, Nat.cast_mul, Nat.cast_pow, h54, Nat.cast_ofNat]

/-- `ofRatio` is finite below the overflow bound, and from there on the infinity of its sign. -/
theorem ofRatio_overflow {d : Nat} (hd : 0 < d) (s : Bool) (n : Nat) :
    ((n : Int) < overflowAt * d → isFinite (ofRatio s n d) = true) ∧
    (¬ (n : Int) < overflowAt * d → ofRatio s n d = inf s) := by
  have hbound : (n : Int) < overflowAt * d ↔ roundMag n d ≠ infMag := by
    rw [Ne, roundMag_eq_infMag_iff hd, Nat.not_le, overflowAt_eq_natCast, ← Nat.cast_mul, Nat.cast_lt]
  constructor <;> intro h
  · rw [isFinite, mag_ofRatio, decide_eq_true_eq]
    exact lt_of_le_of_ne (roundMag_le n d) (hbound.mp h)
  · rw [ofRatio, not_not.mp (mt hbound.mpr h), inf]

/-- `ofRatio` is a zero up to half the smallest subnormal, with the sign it is given. -/
theorem ofRatio_zero {d : Nat} (hd : 0 < d) (s : Bool) (n : Nat) :
    (2 * (n : Int) ≤ d → ofRatio s n d = zero s) ∧ (¬ 2 * (n : Int) ≤ d → isZero (ofRatio s n d) = false) := by
  have hbound : 2 * (n : Int) ≤ d ↔ roundMag n d = 0 := by
    rw [roundMag_eq_zero_iff hd]
    omega
  constructor <;> intro h
  · rw [ofRatio, hbound.mp h, zero]
  · rw [isZero, mag_ofRatio, decide_eq_false_iff_not]
    exact mt hbound.mpr h

/-! ## The operations on finite operands -/

theorem isNaN_of_isFinite {x : F64} (h : isFinite x = true) : isNaN x = false := (isFinite_iff.mp h).1

theorem isInf_of_isFinite {x : F64} (h : isFinite x = true) : isInf x = false := (isFinite_iff.mp h).2

@[simp] theorem isFinite_neg (x : F64) : isFinite (neg x) = isFinite x := by rw [isFinite, isFinite, mag_neg]

@[simp] theorem isInf_neg (x : F64) : isInf (neg x) = isInf x := by rw [isInf, isInf, mag_neg]

theorem add_of_sum_zero (ν : NanSeed) {a b : F64} (ha : isFinite a = true) (hb : isFinite b = true)
    (h : value a + value b = 0) : add ν a b = zero (sign a && sign b) := by
  simp [add, isNaN_of_isFinite, isInf_of_isFinite, ha, hb, h]

theorem add_of_sum_ne_zero (ν : NanSeed) {a b : F64} (ha : isFinite a = true) (hb : isFinite b = true)
    (h : value a + value b ≠ 0) :
    add ν a b = ofRatio (decide (value a + value b < 0)) (value a + value b).natAbs 1 := by
  simp [add, isNaN_of_isFinite, isInf_of_isFinite, ha, hb, h]

theorem mul_of_isFinite (ν : NanSeed) {a b : F64} (ha : isFinite a = true) (hb : isFinite b = true) :
    mul ν a b = ofRatio (sign a != sign b) (scaled a * scaled b) unit := by
  simp [mul, xsign, isNaN_of_isFinite, isInf_of_isFinite, ha, hb]

theorem div_of_isFinite (ν : NanSeed) {a b : F64} (ha : isFinite a = true) (hb : isFinite b = true)
    (hz : isZero b = false) :
    div ν a b = ofRatio (sign a != sign b) (scaled a * unit) (scaled b) := by
  simp [div, xsign, isNaN_of_isFinite, isInf_of_isFinite, ha, hb, hz]

/-! ## Nearest -/

theorem add_nearest (ν : NanSeed) {a b : F64} (x : F64) (ha : isFinite a = true) (hb : isFinite b = true)
    (hfin : isFinite (add ν a b) = true) :
    |value (add ν a b) - (value a + value b)| ≤ |value x - (value a + value b)| := by
  by_cases h : value a + value b = 0
  · have hzero : value (zero (sign a && sign b)) = 0 := by
      rw [← abs_eq_zero, abs_value, Nat.cast_eq_zero, scaled_eq_zero, mag_zero]
    rw [add_of_sum_zero ν ha hb h, h, hzero]
    simp
  · rw [add_of_sum_ne_zero ν ha hb h] at hfin ⊢
    simpa only [signed_natAbs, Nat.cast_one, mul_one] using ofRatio_nearest Nat.one_pos _ _ x hfin

theorem mul_nearest (ν : NanSeed) {a b : F64} (x : F64) (ha : isFinite a = true) (hb : isFinite b = true)
    (hfin : isFinite (mul ν a b) = true) :
    |value (mul ν a b) * unit - value a * value b| ≤ |value x * unit - value a * value b| := by
  rw [mul_of_isFinite ν ha hb] at hfin ⊢
  rw [value_eq_signed a, value_eq_signed b, signed_mul]
  exact ofRatio_nearest unit_pos _ _ x hfin

/-- Multiplying out the sign of the divisor keeps distances. -/
theorem abs_mul_signed_sub (v : Int) (s t : Bool) (m n : Nat) :
    |v * signed t m - signed s n| = |v * m - signed (s != t) n| := by
  cases t
  · rw [Bool.bne_false]
    rfl
  · rw [← abs_neg]
    congr 1
    cases s <;> simp [signed] <;> ring

theorem div_nearest (ν : NanSeed) {a b : F64} (x : F64) (ha : isFinite a = true) (hb : isFinite b = true)
    (hz : isZero b = false) (hfin : isFinite (div ν a b) = true) :
    |value (div ν a b) * value b - value a * unit| ≤ |value x * value b - value a * unit| := by
  rw [div_of_isFinite ν ha hb hz] at hfin ⊢
  rw [value_eq_signed a, value_eq_signed b, signed_mul_natCast, abs_mul_signed_sub, abs_mul_signed_sub]
  exact ofRatio_nearest (scaled_pos hz) _ _ x hfin

/-! ## Overflow -/

theorem overflowAt_pos : 0 < overflowAt := by
  unfold overflowAt
  positivity

theorem add_overflow (ν : NanSeed) {a b : F64} (ha : isFinite a = true) (hb : isFinite b = true) :
    (|value a + value b| < overflowAt → isFinite (add ν a b) = true) ∧
    (¬ |value a + value b| < overflowAt → add ν a b = inf (decide (value a + value b < 0))) := by
  by_cases h : value a + value b = 0
  · refine ⟨fun _ => ?_, fun hover => absurd overflowAt_pos (by rwa [h, abs_zero] at hover)⟩
    rw [add_of_sum_zero ν ha hb h, isFinite, mag_zero]
    rfl
  · rw [add_of_sum_ne_zero ν ha hb h]
    have hbound := ofRatio_overflow Nat.one_pos (decide (value a + value b < 0)) (value a + value b).natAbs
    rwa [Int.natCast_natAbs, Nat.cast_one, mul_one] at hbound

theorem mul_overflow (ν : NanSeed) {a b : F64} (ha : isFinite a = true) (hb : isFinite b = true) :
    (|value a * value b| < overflowAt * unit → isFinite (mul ν a b) = true) ∧
    (¬ |value a * value b| < overflowAt * unit → mul ν a b = inf (sign a != sign b)) := by
  rw [mul_of_isFinite ν ha hb, abs_mul, abs_value, abs_value, ← Nat.cast_mul]
  exact ofRatio_overflow unit_pos _ _

theorem div_overflow (ν : NanSeed) {a b : F64} (ha : isFinite a = true) (hb : isFinite b = true)
    (hz : isZero b = false) :
    (|value a| * unit < overflowAt * |value b| → isFinite (div ν a b) = true) ∧
    (¬ |value a| * unit < overflowAt * |value b| → div ν a b = inf (sign a != sign b)) := by
  rw [div_of_isFinite ν ha hb hz, abs_value, abs_value, ← Nat.cast_mul]
  exact ofRatio_overflow (scaled_pos hz) _ _

/-! ## Zero results -/

theorem add_eq_zero_or_not (ν : NanSeed) {a b : F64} (ha : isFinite a = true) (hb : isFinite b = true) :
    (value a + value b = 0 → add ν a b = zero (sign a && sign b)) ∧
    (¬ value a + value b = 0 → isZero (add ν a b) = false) := by
  refine ⟨add_of_sum_zero ν ha hb, fun h => ?_⟩
  have hzero := ofRatio_zero Nat.one_pos (decide (value a + value b < 0)) (value a + value b).natAbs
  rw [add_of_sum_ne_zero ν ha hb h]
  exact hzero.2 (by omega)

theorem mul_eq_zero_or_not (ν : NanSeed) {a b : F64} (ha : isFinite a = true) (hb : isFinite b = true) :
    (2 * |value a * value b| ≤ unit → mul ν a b = zero (sign a != sign b)) ∧
    (¬ 2 * |value a * value b| ≤ unit → isZero (mul ν a b) = false) := by
  rw [mul_of_isFinite ν ha hb, abs_mul, abs_value, abs_value, ← Nat.cast_mul]
  exact ofRatio_zero unit_pos _ _

theorem div_eq_zero_or_not (ν : NanSeed) {a b : F64} (ha : isFinite a = true) (hb : isFinite b = true)
    (hz : isZero b = false) :
    (2 * (|value a| * unit) ≤ |value b| → div ν a b = zero (sign a != sign b)) ∧
    (¬ 2 * (|value a| * unit) ≤ |value b| → isZero (div ν a b) = false) := by
  rw [div_of_isFinite ν ha hb hz, abs_value, abs_value, ← Nat.cast_mul]
  exact ofRatio_zero (scaled_pos hz) _ _

end Sys2Proof.F64

namespace Sys2Proof

open F64

/-- Settles O49: each operation is `ofRatio` of the exact result (`F64.ofRatio_nearest`); a difference is a sum. -/
theorem operationsRoundToNearest : Obligations.OperationsRoundToNearest := by
  intro ν a b x ha hb _
  have hsub := add_nearest ν x ha ((isFinite_neg b).trans hb)
  rw [value_neg, ← sub_eq_add_neg] at hsub
  exact ⟨add_nearest ν x ha hb, hsub, mul_nearest ν x ha hb, div_nearest ν x ha hb⟩

/-- Settles O50: each operation is `ofRatio` of the exact result (`F64.ofRatio_overflow`). -/
theorem operationsOverflowAtTheBound : Obligations.OperationsOverflowAtTheBound := by
  intro ν a b ha hb
  simp only [ite_prop_iff_and]
  have hsub := add_overflow ν ha ((isFinite_neg b).trans hb)
  rw [value_neg, ← sub_eq_add_neg] at hsub
  exact ⟨add_overflow ν ha hb, hsub, mul_overflow ν ha hb, div_overflow ν ha hb⟩

/-- Settles O51: each operation is `ofRatio` of the exact result (`F64.ofRatio_zero`), and a sum of whole units cannot
underflow. -/
theorem zeroResultsAndTheirSigns : Obligations.ZeroResultsAndTheirSigns := by
  intro ν a b ha hb
  simp only [ite_prop_iff_and]
  have hsub := add_eq_zero_or_not ν ha ((isFinite_neg b).trans hb)
  rw [value_neg, ← sub_eq_add_neg, sign_neg] at hsub
  exact ⟨add_eq_zero_or_not ν ha hb, hsub, mul_eq_zero_or_not ν ha hb, div_eq_zero_or_not ν ha hb⟩

end Sys2Proof

/-! SUPPORT. Proofs of the family 00_scope, part 3: comparisons, clamping and the operations on NaNs and infinities (O52 to
O54). -/

namespace Sys2Proof.F64

/-! ## Comparisons and values

`key` and `value` put the same sign before a magnitude and its strictly increasing image. -/

theorem value_lt_value_iff (a b : F64) : value a < value b ↔ key a < key b := by
  have hlt : scaled a < scaled b ↔ mag a < mag b := scaledMag_strictMono.lt_iff_lt
  have hgt : scaled b < scaled a ↔ mag b < mag a := scaledMag_strictMono.lt_iff_lt
  have ha : scaled a = 0 ↔ mag a = 0 := scaled_eq_zero
  have hb : scaled b = 0 ↔ mag b = 0 := scaled_eq_zero
  unfold value key
  split_ifs <;> omega

theorem value_le_value_iff (a b : F64) : value a ≤ value b ↔ key a ≤ key b := by
  rw [← Int.not_lt, ← Int.not_lt, value_lt_value_iff]

/-! ## Classes of the special patterns -/

@[simp] theorem isInf_inf (p : Bool) : isInf (inf p) = true := by simp [isInf]

@[simp] theorem isZero_inf (p : Bool) : isZero (inf p) = false := by
  rw [isZero, mag_inf]
  decide

theorem eq_inf_of_isInf {x : F64} (h : isInf x = true) : x = inf (sign x) :=
  ext_sign_mag (sign_inf _).symm (by simpa [isInf] using h)

theorem isFinite_of_isZero {x : F64} (h : isZero x = true) : isFinite x = true := by
  have hmag : mag x = 0 := by simpa [isZero] using h
  rw [isFinite, hmag]
  decide

/-! ## Comparisons with an infinity -/

theorem key_inf (p : Bool) : key (inf p) = if p then -(infMag : Int) else infMag := by
  rw [key, sign_inf, mag_inf]

theorem key_between_of_isFinite {x : F64} (h : isFinite x = true) : -(infMag : Int) < key x ∧ key x < infMag := by
  have hmag : mag x < infMag := by simpa [isFinite] using h
  unfold key
  split_ifs <;> omega

theorem lt_inf_of_isFinite {x : F64} (h : isFinite x = true) : lt x (inf false) = true :=
  lt_iff.mpr ⟨isNaN_of_isFinite h, isNaN_inf _, by rw [key_inf]; exact (key_between_of_isFinite h).2⟩

theorem neg_inf_lt_of_isFinite {x : F64} (h : isFinite x = true) : lt (inf true) x = true :=
  lt_iff.mpr ⟨isNaN_inf _, isNaN_of_isFinite h, by rw [key_inf]; exact (key_between_of_isFinite h).1⟩

theorem lt_eq_false_of_le {a b : F64} (h : le a b = true) : lt b a = false := by
  obtain ⟨-, -, hk⟩ := le_iff.mp h
  rw [Bool.eq_false_iff, Ne, lt_iff]
  omega

theorem lt_of_le_of_lt {a b c : F64} (h : le a b = true) (h' : lt b c = true) : lt a c = true := by
  obtain ⟨ha, -, hk⟩ := le_iff.mp h
  obtain ⟨-, hc, hk'⟩ := lt_iff.mp h'
  exact lt_iff.mpr ⟨ha, hc, Int.lt_of_le_of_lt hk hk'⟩

/-! ## The operations on infinities -/

section
variable (ν : NanSeed) {b : F64} (p q : Bool)

theorem add_inf_inf : add ν (inf p) (inf p) = inf p := by simp [add]

theorem isNaN_add_inf_inf_not : isNaN (add ν (inf p) (inf !p)) = true := by simp [add]

theorem add_inf_left (hb : isFinite b = true) : add ν (inf p) b = inf p := by
  simp [add, isNaN_of_isFinite hb, isInf_of_isFinite hb]

theorem add_inf_right (hb : isFinite b = true) : add ν b (inf p) = inf p := by
  simp [add, isNaN_of_isFinite hb, isInf_of_isFinite hb]

theorem mul_inf_inf : mul ν (inf p) (inf q) = inf (p != q) := by simp [mul, xsign]

theorem mul_inf_left (hb : isFinite b = true) (hz : isZero b = false) : mul ν (inf p) b = inf (p != sign b) := by
  simp [mul, xsign, isNaN_of_isFinite hb, hz]

theorem mul_inf_right (hb : isFinite b = true) (hz : isZero b = false) : mul ν b (inf p) = inf (sign b != p) := by
  simp [mul, xsign, isNaN_of_isFinite hb, hz]

theorem isNaN_mul_inf_zero (hz : isZero b = true) : isNaN (mul ν (inf p) b) = true := by
  simp [mul, isNaN_of_isFinite (isFinite_of_isZero hz), hz]

theorem isNaN_mul_zero_inf (hz : isZero b = true) : isNaN (mul ν b (inf p)) = true := by
  simp [mul, isNaN_of_isFinite (isFinite_of_isZero hz), hz]

theorem isNaN_div_inf_inf : isNaN (div ν (inf p) (inf q)) = true := by simp [div]

theorem div_inf_left (hb : isFinite b = true) : div ν (inf p) b = inf (p != sign b) := by
  simp [div, xsign, isNaN_of_isFinite hb, isInf_of_isFinite hb]

theorem div_inf_right (hb : isFinite b = true) : div ν b (inf p) = zero (sign b != p) := by
  simp [div, xsign, isNaN_of_isFinite hb, isInf_of_isFinite hb]

end

/-! ## The division by a zero -/

theorem isNaN_div_zero_zero (ν : NanSeed) {a b : F64} (ha : isZero a = true) (hb : isZero b = true) :
    isNaN (div ν a b) = true := by
  have fa := isFinite_of_isZero ha
  have fb := isFinite_of_isZero hb
  simp [div, isNaN_of_isFinite fa, isInf_of_isFinite fa, isNaN_of_isFinite fb, isInf_of_isFinite fb, ha, hb]

theorem div_zero_right (ν : NanSeed) {a b : F64} (ha : isFinite a = true) (hz : isZero a = false)
    (hb : isZero b = true) : div ν a b = inf (sign a != sign b) := by
  have fb := isFinite_of_isZero hb
  simp [div, xsign, isNaN_of_isFinite ha, isInf_of_isFinite ha, isNaN_of_isFinite fb, isInf_of_isFinite fb, hz, hb]

/-! ## A NaN operand -/

theorem isNaN_add (ν : NanSeed) {a b : F64} (h : isNaN a = true ∨ isNaN b = true) : isNaN (add ν a b) = true :=
  h.elim (isNaN_add_of_left ν b) (isNaN_add_of_right ν a)

theorem isNaN_mul (ν : NanSeed) {a b : F64} (h : isNaN a = true ∨ isNaN b = true) : isNaN (mul ν a b) = true :=
  h.elim (isNaN_mul_of_left ν b) (isNaN_mul_of_right ν a)

theorem isNaN_div (ν : NanSeed) {a b : F64} (h : isNaN a = true ∨ isNaN b = true) : isNaN (div ν a b) = true :=
  h.elim (isNaN_div_of_left ν b) (isNaN_div_of_right ν a)

end Sys2Proof.F64

namespace Sys2Proof

open F64

/-- Settles O53: `key` and `value` order the finite patterns alike. -/
theorem comparisonsCompareValues : Obligations.ComparisonsCompareValues := by
  refine ⟨fun a b ha hb => ?_, fun a b hnan => ?_⟩
  · rw [lt_iff, le_iff, value_lt_value_iff, value_le_value_iff]
    simp [isNaN_of_isFinite ha, isNaN_of_isFinite hb]
  · rcases hnan with h | h <;> simp [lt, le, h]

/-! ## The clamping primitive -/

section
variable {v lo hi dflt : F64}

theorem clampP_of_isNaN (hlo : le lo dflt = true) (hhi : le dflt hi = true) (hv : isNaN v = true) :
    clampP v lo hi dflt = dflt := by
  simp [clampP, hv, lt_eq_false_of_le hlo, lt_eq_false_of_le hhi]

theorem clampP_of_lt (h : lt v lo = true) : clampP v lo hi dflt = lo := by
  simp [clampP, (lt_iff.mp h).1, h]

theorem clampP_of_gt (hbounds : le lo hi = true) (h : lt hi v = true) : clampP v lo hi dflt = hi := by
  have hlo : lt v lo = false := lt_eq_false_of_le (le_of_lt (lt_of_le_of_lt hbounds h))
  simp [clampP, (lt_iff.mp h).2.1, hlo, h]

theorem clampP_of_between (hlo : le lo v = true) (hhi : le v hi = true) : clampP v lo hi dflt = v := by
  simp [clampP, (le_iff.mp hhi).1, lt_eq_false_of_le hlo, lt_eq_false_of_le hhi]

end

/-- Settles O54: the four outcomes of `clampP`; an infinity lies beyond every finite bound. -/
theorem clampingPrimitive : Obligations.ClampingPrimitive := by
  intro v lo hi dflt hlo hhi
  have hbounds : le lo hi = true := le_trans hlo hhi
  exact ⟨clampP_of_isNaN hlo hhi, clampP_of_lt, clampP_of_gt hbounds, clampP_of_between,
    fun flo fhi => ⟨clampP_of_gt hbounds (lt_inf_of_isFinite fhi), clampP_of_lt (neg_inf_lt_of_isFinite flo)⟩⟩

/-- Settles O52: clause by clause the operation's own law; a difference is the sum with the second operand negated. -/
theorem nonFiniteOperands : Obligations.NonFiniteOperands := by
  intro ν a b p q
  refine ⟨eq_inf_of_isInf, fun hnan => ⟨isNaN_add ν hnan, isNaN_add ν (by rwa [isNaN_neg]), isNaN_mul ν hnan,
    isNaN_div ν hnan⟩, add_inf_inf ν p, isNaN_add_inf_inf_not ν p, ?_, ?_, mul_inf_inf ν p q,
    isNaN_div_inf_inf ν p q, fun hb => ?_, fun hz => ?_⟩
  · rw [sub, neg_inf_pattern, Bool.not_not, add_inf_inf]
  · rw [sub, neg_inf_pattern, isNaN_add_inf_inf_not]
  · exact ⟨add_inf_left ν p hb, add_inf_right ν p hb, add_inf_left ν p ((isFinite_neg b).trans hb),
      by rw [sub, neg_inf_pattern, add_inf_right ν _ hb], div_inf_left ν p hb, div_inf_right ν p hb,
      fun hz => ⟨mul_inf_left ν p hb hz, mul_inf_right ν p hb hz⟩⟩
  · exact ⟨isNaN_mul_inf_zero ν p hz, isNaN_mul_zero_inf ν p hz, fun ha => isNaN_div_zero_zero ν ha hz,
      fun ha hna => div_zero_right ν ha hna hz⟩

end Sys2Proof

/-! SUPPORT. Proofs of the family 00_scope, part 4: which configurations elaborate, and the width of the cursor (O3,
O4). -/

namespace Sys2Proof

open Sys2Proof.Machine

/-! ## Configurations -/

theorem Config.valid_iff (c : Config) : c.valid = true ↔
    c.n % 2 = 1 ∧ 1 ≤ c.n ∧ c.n ≤ 15 ∧ c.maxDelay ≤ 2 ^ 24 ∧
      F64.lt F64.pzero c.maxGain = true ∧ F64.lt c.maxGain F64.one = true := by
  simp [Config.valid, and_assoc]

theorem Config.maxDelay_ge (c : Config) : 8192 ≤ c.maxDelay := Nat.le_max_left _ _

/-- The bounds on the delays that hold by the definitions (00_scope.md R6), for an order the core has. -/
theorem Config.minDelay_bounds (c : Config) (hn : c.n ≤ 15) :
    c.h + 2 ≤ c.minDelay ∧ 3 ≤ c.minDelay ∧ c.minDelay < c.maxDelay := by
  have hmax := c.maxDelay_ge
  unfold Config.minDelay Config.h
  omega

theorem step_of_not_valid {s : State} (h : ¬ s.cfg.valid = true) : step s = .refused .notElaborated := by
  rw [step, fetch, if_neg h]

/-- Settles O3: the clauses of R7 about the derived parameters follow from their definitions, the others are `valid`. -/
theorem elaborationChecksConfiguration : Obligations.ElaborationChecksConfiguration := by
  intro c
  by_cases hvalid : c.valid = true
  · obtain ⟨hodd, hpos, hn, hmax, hgain⟩ := c.valid_iff.mp hvalid
    obtain ⟨hmin, hmin3, hlt⟩ := c.minDelay_bounds hn
    exact .inl ⟨⟨hodd, hpos, hn, rfl, hmin, hmin3, c.maxDelay_ge, hlt, hmax, hgain⟩, if_pos hvalid⟩
  · refine .inr ⟨?_, if_neg hvalid, fun s hs => step_of_not_valid (hs ▸ hvalid)⟩
    rintro ⟨hodd, hpos, hn, -, -, -, -, -, hmax, hgain⟩
    exact hvalid (c.valid_iff.mpr ⟨hodd, hpos, hn, hmax, hgain⟩)

/-- `CW` is the width that holds the numbers below `L` and no smaller one does. -/
theorem Config.cw_spec (c : Config) : c.len ≤ 2 ^ c.cw ∧ 2 ^ (c.cw - 1) < c.len := by
  have hlen : 8192 ≤ c.len := Nat.le_add_right_of_le c.maxDelay_ge
  have hhigh : c.len - 1 < 2 ^ c.cw := Nat.lt_log2_self
  have hlow : 2 ^ (c.cw - 1) ≤ c.len - 1 := Nat.log2_self_le (by omega)
  omega

/-- Settles O4: the invariant keeps CURSOR below `L`. -/
theorem cursorFitsItsWidth : Obligations.CursorFitsItsWidth :=
  ⟨Config.cw_spec, fun s hs => hs.cursorRange.trans_le s.cfg.cw_spec.1⟩

end Sys2Proof

/-! SUPPORT. Proofs of the family 10_state, part 1: whole numbers as binary64, sums between bounds, and the ranges of the
clamped arguments. -/

namespace Sys2Proof.F64

/-! ## Whole numbers -/

/-- `k` units of `1.0` lie in the binade that begins at the leading bit of `k`. -/
theorem exists_scaledMag_eq_mul_unit {k : Nat} (hk : k < 2 ^ 53) : ∃ m, m < infMag ∧ scaledMag m = k * unit := by
  rcases Nat.eq_zero_or_pos k with rfl | hpos
  · exact ⟨0, by decide, by rw [Nat.zero_mul, scaledMag_eq_zero]⟩
  have hlow : 2 ^ Nat.log2 k ≤ k := Nat.log2_self_le (by omega)
  have hhigh : k < 2 ^ (Nat.log2 k + 1) := Nat.lt_log2_self
  have hlog : Nat.log2 k < 53 := (Nat.pow_lt_pow_iff_right (by decide)).mp (hlow.trans_lt hk)
  generalize Nat.log2 k = l at hlow hhigh hlog
  have hj : 2 ^ 52 ≤ k * 2 ^ (52 - l) := by
    calc 2 ^ 52 = 2 ^ l * 2 ^ (52 - l) := by rw [← pow_add]; congr 1; omega
      _ ≤ k * 2 ^ (52 - l) := Nat.mul_le_mul_right _ hlow
  have hj' : k * 2 ^ (52 - l) < 2 ^ 53 := by
    calc k * 2 ^ (52 - l) < 2 ^ (l + 1) * 2 ^ (52 - l) := Nat.mul_lt_mul_of_pos_right hhigh (Nat.two_pow_pos _)
      _ = 2 ^ 53 := by rw [← pow_add]; congr 1; omega
  refine ⟨(1022 + l) * 2 ^ 52 + k * 2 ^ (52 - l), ?_, ?_⟩
  · unfold infMag
    omega
  · rw [scaledMag_binade (.inr hj) hj'.le, Nat.mul_assoc, ← pow_add, unit]
    congr 2
    omega

/-- A whole number of up to 53 bits is represented exactly (00_scope.md R10). -/
theorem ofNat_exact {k : Nat} (hk : k < 2 ^ 53) : isFinite (ofNat k) = true ∧ value (ofNat k) = k * unit := by
  obtain ⟨m, hm, hmag⟩ := exists_scaledMag_eq_mul_unit hk
  have hround : roundMag (k * unit) 1 = m := by
    rw [← hmag, ← Nat.mul_one (scaledMag m), roundMag_scaledMag hm Nat.one_pos]
  have hratio : ofNat k = ofRatio false (k * unit) 1 := by
    rw [ofNat, ofInt, Int.natAbs_natCast, decide_eq_false (by omega)]
  rw [hratio, isFinite, mag_ofRatio, value_ofRatio, hround, hmag]
  exact ⟨decide_eq_true hm, Nat.cast_mul k unit⟩

theorem value_ofNat_pred {k : Nat} (hpos : 0 < k) (hk : k < 2 ^ 53) :
    value (ofNat (k - 1)) = value (ofNat k) - unit := by
  rw [(ofNat_exact hk).2, (ofNat_exact (by omega)).2, Nat.cast_sub hpos, sub_mul, Nat.cast_one, one_mul]

theorem ofNat_le_ofNat {j k : Nat} (h : j ≤ k) (hk : k < 2 ^ 53) : le (ofNat j) (ofNat k) = true := by
  rw [le_iff, ← value_le_value_iff, (ofNat_exact (h.trans_lt hk)).2, (ofNat_exact hk).2]
  exact ⟨isNaN_ofNat j, isNaN_ofNat k, Int.mul_le_mul_of_nonneg_right (Int.ofNat_le.mpr h) (Int.natCast_nonneg _)⟩

theorem ofNat_one : ofNat 1 = one := by decide +kernel

theorem value_one : value one = unit := by
  rw [← ofNat_one, (ofNat_exact (by decide)).2, Nat.cast_one, one_mul]

/-! ## Between finite bounds -/

theorem isFinite_of_key_between {x : F64} (h : -(infMag : Int) < key x) (h' : key x < infMag) : isFinite x = true := by
  rw [isFinite, decide_eq_true_eq]
  unfold key at h h'
  split_ifs at h h' <;> omega

theorem isFinite_of_between {lo v hi : F64} (hlo : isFinite lo = true) (hhi : isFinite hi = true)
    (h : le lo v = true) (h' : le v hi = true) : isFinite v = true :=
  isFinite_of_key_between ((key_between_of_isFinite hlo).1.trans_le (le_iff.mp h).2.2)
    ((le_iff.mp h').2.2.trans_lt (key_between_of_isFinite hhi).2)

theorem abs_value_lt_overflowAt {x : F64} (h : isFinite x = true) : |value x| < overflowAt := by
  have hmag : mag x < infMag := by simpa [isFinite] using h
  have hmid : 2 * scaledMag (mag x) < twiceMid (infMag - 1) := two_mul_scaledMag_lt_twiceMid (by omega)
  rw [twiceMid_last] at hmid
  rw [abs_value, overflowAt_eq_natCast, scaled]
  exact Int.ofNat_lt.mpr (Nat.lt_of_mul_lt_mul_left hmid)

/-- A sum between two binary64 numbers is rounded between them: neither bound is passed, since it would be nearer. -/
theorem add_between (ν : NanSeed) {a b lo hi : F64} (ha : isFinite a = true) (hb : isFinite b = true)
    (hlo : isFinite lo = true) (hhi : isFinite hi = true)
    (h : value lo ≤ value a + value b) (h' : value a + value b ≤ value hi) :
    le lo (add ν a b) = true ∧ le (add ν a b) hi = true := by
  have hfin : isFinite (add ν a b) = true := by
    refine (add_overflow ν ha hb).1 (abs_lt.mpr ⟨?_, ?_⟩)
    · exact (abs_lt.mp (abs_value_lt_overflowAt hlo)).1.trans_le h
    · exact h'.trans_lt (abs_lt.mp (abs_value_lt_overflowAt hhi)).2
  have hnearLo := add_nearest ν lo ha hb hfin
  have hnearHi := add_nearest ν hi ha hb hfin
  rw [le_iff, le_iff, ← value_le_value_iff, ← value_le_value_iff]
  refine ⟨⟨isNaN_of_isFinite hlo, isNaN_of_isFinite hfin, ?_⟩, isNaN_of_isFinite hfin, isNaN_of_isFinite hhi, ?_⟩
  · rw [abs_of_nonpos (by omega : value lo - _ ≤ 0)] at hnearLo
    linarith [neg_abs_le (value (add ν a b) - (value a + value b))]
  · rw [abs_of_nonneg (by omega : 0 ≤ value hi - _)] at hnearHi
    linarith [le_abs_self (value (add ν a b) - (value a + value b))]

theorem key_neg (x : F64) : key (neg x) = -key x := by
  rw [key, key, sign_neg, mag_neg]
  cases sign x <;> simp

theorem neg_le_zero_of_lt {x : F64} (h : lt pzero x = true) : le (neg x) pzero = true := by
  obtain ⟨hz, hx, hk⟩ := lt_iff.mp h
  have hkey : key pzero = 0 := by decide
  refine le_iff.mpr ⟨by rwa [isNaN_neg], hz, ?_⟩
  rw [key_neg]
  omega

end Sys2Proof.F64

namespace Sys2Proof

open F64

/-! ## The clamped arguments (40_datapath.md R117) -/

section
variable {c : Config} (hc : c.valid = true)
include hc

theorem Config.minDelay_lt_maxDelay : c.minDelay < c.maxDelay := by
  obtain ⟨-, -, hn, -⟩ := c.valid_iff.mp hc
  exact (c.minDelay_bounds hn).2.2

theorem Config.maxDelay_lt : c.maxDelay < 2 ^ 53 := by
  obtain ⟨-, -, -, hmax, -⟩ := c.valid_iff.mp hc
  omega

theorem Config.zero_lt_maxGain : lt pzero c.maxGain = true := by
  obtain ⟨-, -, -, -, hgain, -⟩ := c.valid_iff.mp hc
  exact hgain

theorem Config.minDelayF_le_maxDelayF : le c.minDelayF c.maxDelayF = true :=
  ofNat_le_ofNat (Config.minDelay_lt_maxDelay hc).le (Config.maxDelay_lt hc)

theorem clampDelay_between (v : F64) :
    le c.minDelayF (clampDelay c v) = true ∧ le (clampDelay c v) c.maxDelayF = true :=
  clampP_between (le_refl_of_not_nan (isNaN_ofNat _)) (Config.minDelayF_le_maxDelayF hc)

/-- A stored delay lies in `[MIN_DELAY - 1, MAX_DELAY - 1]` (10_state.md R23), whatever the argument. -/
theorem delayArg_between (ν : NanSeed) (v : F64) :
    le (ofNat (c.minDelay - 1)) (delayArg ν c v) = true ∧ le (delayArg ν c v) (ofNat (c.maxDelay - 1)) = true := by
  have hlt := Config.minDelay_lt_maxDelay hc
  have hmax := Config.maxDelay_lt hc
  have hmin : 3 ≤ c.minDelay := Nat.le_max_left _ _
  obtain ⟨hlo, hhi⟩ := clampDelay_between hc v
  have hfin := isFinite_of_between (ofNat_exact (hlt.trans hmax)).1 (ofNat_exact hmax).1 hlo hhi
  have hone : isFinite (neg one) = true := by decide
  refine add_between ν hfin hone (ofNat_exact (by omega)).1 (ofNat_exact (by omega)).1 ?_ ?_ <;>
    rw [value_neg, value_one, value_ofNat_pred (by omega) (by omega), ← sub_eq_add_neg]
  · exact Int.sub_le_sub_right ((value_le_value_iff _ _).mpr (le_iff.mp hlo).2.2) _
  · exact Int.sub_le_sub_right ((value_le_value_iff _ _).mpr (le_iff.mp hhi).2.2) _

theorem clampDelay_minDelayF : clampDelay c c.minDelayF = c.minDelayF :=
  clampP_of_between (le_refl_of_not_nan (isNaN_ofNat _)) (Config.minDelayF_le_maxDelayF hc)

theorem gainArg_between (g : F64) :
    le (neg c.maxGain) (gainArg c g) = true ∧ le (gainArg c g) c.maxGain = true :=
  clampP_between (neg_le_zero_of_lt (Config.zero_lt_maxGain hc)) (le_of_lt (Config.zero_lt_maxGain hc))

theorem brightArg_between (b : F64) :
    le pzero (brightArg c b) = true ∧ le (brightArg c b) c.maxGain = true :=
  clampP_between (le_refl_of_not_nan (by decide)) (le_of_lt (Config.zero_lt_maxGain hc))

end

/-- A sample rate that SET_SR takes is finite and at least 1.0 (42_control.md R164). -/
theorem rate_of_not_badSampleRate {r : F64} (h : badSampleRate r = false) :
    isFinite r = true ∧ le one r = true := by
  simp only [badSampleRate, Bool.or_eq_false_iff, Bool.not_eq_false'] at h
  obtain ⟨⟨hnan, hfin⟩, hlt⟩ := h
  exact ⟨hfin, le_of_not_lt hnan (by decide) hlt⟩

end Sys2Proof

/-! SUPPORT. Proofs of the family 10_state, part 2: what a command's step makes of the state, said once, and the
invariant (O19, O18, O17). -/

namespace Sys2Proof.Machine

/-! ## The result of a command -/

/-- `CommandResult s d t`: a transaction that decodes to `d`, accepted as the state `s`, leaves the state `t`. -/
inductive CommandResult (s : State) : Except Cause Instr → State → Prop
  /-- Rejected by the decoder (60_exceptions.md R201). -/
  | undecodable (c : Cause) : CommandResult s (.error c) (reject c s)
  | nop : CommandResult s (.ok .nop) (respond false 0#64 s)
  | setDelay (a sd : F64) (sp : Split) (w : List F64) (hsd : sd = delayArg (s.seed.site 1) s.cfg a)
      (hsp : sp = split (s.seed.site 2) s.cfg sd) (hw : w = staticWeights (s.seed.site 3) s.cfg.n sp.p) :
      CommandResult s (.ok (.setDelay a))
        (respond false 0#64 (retune (s.seed.site 4) (storeDelay sd sp.dt w s)))
  | setGain (g : F64) :
      CommandResult s (.ok (.setGain g))
        (respond false 0#64 (retune (s.seed.site 4) (storeGain (gainArg s.cfg g) s)))
  | setBright (b : F64) :
      CommandResult s (.ok (.setBright b))
        (respond false 0#64 (retune (s.seed.site 4) (storeBright (brightArg s.cfg b) s)))
  | setSr (r : F64) (hr : badSampleRate r = false) :
      CommandResult s (.ok (.setSr r)) (respond false 0#64 (storeRate r (dcCoef (s.seed.site 5) r) s))
  /-- SET_SR rejects its operand (42_control.md R164). -/
  | badRate (r : F64) (hr : badSampleRate r = true) :
      CommandResult s (.ok (.setSr r)) (reject .badSampleRate s)
  | clear : CommandResult s (.ok .clear) (respond false 0#64 (setPhase .cleared (clearAudio s)))
  /-- A STEP in any of the three modes (40_datapath.md R114). -/
  | sample (i : Instr) (v : Sample) (hi : isStep i = true) (hcursor : s.CURSOR < s.cfg.len) :
      CommandResult s (.ok i) (respond false v.y (storeSample v s))
  | get (reg : Reg) (v : F64) (hv : regValue s reg = some v) :
      CommandResult s (.ok (.get reg)) (respond false v s)
  | badSelector (reg : Reg) (hv : regValue s reg = none) :
      CommandResult s (.ok (.get reg)) (reject .badSelector s)

theorem commandResult_of_oneSample {ν : NanSeed} {e : F64} {w : List F64} {dt : Nat} {a : F64 × F64} {i : Instr}
    {s t : State} (hi : isStep i = true) (h : oneSample ν e w dt a s = .next t) : CommandResult s (.ok i) t := by
  obtain ⟨hcursor, rfl⟩ := oneSample_next h
  exact .sample i _ hi hcursor

theorem commandResult_of_exec {i : Instr} {s t : State} (h : exec i s = .next t) : CommandResult s (.ok i) t := by
  cases i with
  | nop =>
    obtain rfl := Host.Outcome.next.inj h
    exact .nop
  | setDelay a =>
    obtain rfl := Host.Outcome.next.inj h
    exact .setDelay a _ _ _ rfl rfl rfl
  | setGain g =>
    obtain rfl := Host.Outcome.next.inj h
    exact .setGain g
  | setBright b =>
    obtain rfl := Host.Outcome.next.inj h
    exact .setBright b
  | setSr r =>
    rcases exec_setSr_cases r s with ⟨hr, he⟩ | ⟨hr, he⟩ <;> obtain rfl := Host.Outcome.next.inj (he.symm.trans h)
    · exact .badRate r hr
    · exact .setSr r hr
  | clear =>
    obtain rfl := Host.Outcome.next.inj h
    exact .clear
  | stepA e => exact commandResult_of_oneSample rfl h
  | stepB e d => exact commandResult_of_oneSample rfl h
  | stepC e g d => exact commandResult_of_oneSample rfl h
  | get reg =>
    rcases exec_get_cases reg s with ⟨v, hv, he⟩ | ⟨hv, he⟩ <;> obtain rfl := Host.Outcome.next.inj (he.symm.trans h)
    · exact .get reg v hv
    · exact .badSelector reg hv

/-- What a step that answers a next state has done: nothing, a reset, or one command. -/
theorem step_next {s t : State} (h : step s = .next t) :
    (s.inbox = [] ∧ t = s) ∨ (∃ f rest, s.inbox = .reset f :: rest ∧ t = takeReset rest s) ∨
    ∃ tr rest, s.inbox = .command tr :: rest ∧ CommandResult (accept rest s) (decode s.cfg tr) t := by
  rcases step_cases s with ⟨-, he⟩ | ⟨-, hin, he⟩ | ⟨-, f, rest, hin, he⟩ | ⟨-, -, -, he⟩ | ⟨-, -, tr, rest, hin, hcmd⟩
  · exact nomatch he.symm.trans h
  · exact .inl ⟨hin, (Host.Outcome.next.inj (he.symm.trans h)).symm⟩
  · exact .inr (.inl ⟨f, rest, hin, (Host.Outcome.next.inj (he.symm.trans h)).symm⟩)
  · exact nomatch he.symm.trans h
  · refine .inr (.inr ⟨tr, rest, hin, ?_⟩)
    rcases hcmd with ⟨i, hd, he⟩ | ⟨c, hd, he⟩ <;> rw [hd]
    · exact commandResult_of_exec (he.symm.trans h)
    · obtain rfl := Host.Outcome.next.inj (he.symm.trans h)
      exact .undecodable c

theorem step_command {s t : State} {tr : Transaction} {rest : List Input} (hin : s.inbox = .command tr :: rest)
    (h : step s = .next t) : CommandResult (accept rest s) (decode s.cfg tr) t := by
  rcases step_next h with ⟨hin', -⟩ | ⟨f, rest', hin', -⟩ | ⟨tr', rest', hin', hcmd⟩ <;> rw [hin] at hin'
  · exact nomatch hin'
  · exact nomatch hin'
  · cases hin'
    exact hcmd

/-! ## The operations keep the invariant (10_state.md R40)

Each lemma names the clauses whose registers its operation writes; the others are those of the state before. -/

namespace State.Inv

variable {s : State} (hs : s.Inv)
include hs

theorem accept (rest : List Input) : (accept rest s).Inv := { hs with }

theorem respond (d : F64) : (respond false d s).Inv :=
  { hs with rejectedData := by rintro _ ⟨⟩ ⟨⟩ }

theorem reject (c : Cause) : (reject c s).Inv :=
  { hs with
    causeErr := by simp
    rejectedData := by rintro _ ⟨⟩ -; rfl }

theorem retune_storeDelay (ν μ ξ η : NanSeed) (a : F64) :
    (retune ν (storeDelay (delayArg μ s.cfg a) (split ξ s.cfg (delayArg μ s.cfg a)).dt
      (staticWeights η s.cfg.n (split ξ s.cfg (delayArg μ s.cfg a)).p) s)).Inv :=
  { hs with
    delayLow := (delayArg_between hs.cfgValid μ a).1
    delayHigh := (delayArg_between hs.cfgValid μ a).2
    delayCache := ⟨ξ, η, rfl, rfl⟩
    toneCache := ⟨ν, rfl⟩ }

theorem retune_storeGain (ν : NanSeed) (g : F64) : (retune ν (storeGain (gainArg s.cfg g) s)).Inv :=
  { hs with
    gainLow := (gainArg_between hs.cfgValid g).1
    gainHigh := (gainArg_between hs.cfgValid g).2
    toneCache := ⟨ν, rfl⟩ }

theorem retune_storeBright (ν : NanSeed) (b : F64) : (retune ν (storeBright (brightArg s.cfg b) s)).Inv :=
  { hs with
    brightLow := (brightArg_between hs.cfgValid b).1
    brightHigh := (brightArg_between hs.cfgValid b).2
    toneCache := ⟨ν, rfl⟩ }

theorem storeRate (ν : NanSeed) {r : F64} (hr : badSampleRate r = false) : (storeRate r (dcCoef ν r) s).Inv :=
  { hs with
    rateFinite := (rate_of_not_badSampleRate hr).1
    rateLow := (rate_of_not_badSampleRate hr).2
    dcCache := ⟨ν, rfl⟩ }

theorem setPhase_clearAudio : (setPhase .cleared (clearAudio s)).Inv :=
  { hs with
    started := nofun
    bufWf := Memory.nil_wf
    bufRange := nofun
    cursorRange := Config.len_pos s.cfg }

theorem storeSample (v : Sample) : (storeSample v s).Inv :=
  { hs with
    started := nofun
    bufWf := Memory.write_wf hs.bufWf s.CURSOR v.y
    bufRange := by
      intro c hc
      rcases Memory.mem_write hc with ⟨rfl, -⟩ | hc
      · exact hs.cursorRange
      · exact hs.bufRange c hc
    cursorRange := Nat.mod_lt _ (Config.len_pos s.cfg) }

end State.Inv

theorem CommandResult.inv {s t : State} {d : Except Cause Instr} (h : CommandResult s d t) (hs : s.Inv) : t.Inv := by
  cases h with
  | undecodable c => exact hs.reject c
  | nop => exact hs.respond _
  | setDelay a sd sp w hsd hsp hw =>
    subst hw hsp hsd
    exact (hs.retune_storeDelay _ _ _ _ a).respond _
  | setGain g => exact (hs.retune_storeGain _ g).respond _
  | setBright b => exact (hs.retune_storeBright _ b).respond _
  | setSr r hr => exact (hs.storeRate _ hr).respond _
  | badRate r hr => exact hs.reject _
  | clear => exact hs.setPhase_clearAudio.respond _
  | sample i v hi hcursor => exact (hs.storeSample v).respond _
  | get reg v hv => exact hs.respond v
  | badSelector reg hv => exact hs.reject _

/-! ## The invariant at reset -/

/-- The stored delay at reset is that of a SET_DELAY with `MIN_DELAY`. -/
theorem resetOf_S {c : Config} (hc : c.valid = true) (k : Nat) :
    (State.resetOf c k).S = delayArg ((⟨k, []⟩ : NanSeed).site 0) c c.minDelayF := by
  rw [delayArg, clampDelay_minDelayF hc]
  rfl

theorem resetOf_inv {c : Config} (hc : c.valid = true) (k : Nat) : (State.resetOf c k).Inv where
  cfgValid := hc
  started := nofun
  bufWf := Memory.nil_wf
  bufRange := nofun
  cursorRange := Config.len_pos c
  delayLow := resetOf_S hc k ▸ (delayArg_between hc _ _).1
  delayHigh := resetOf_S hc k ▸ (delayArg_between hc _ _).2
  gainLow := F64.neg_le_zero_of_lt (Config.zero_lt_maxGain hc)
  gainHigh := F64.le_of_lt (Config.zero_lt_maxGain hc)
  brightLow := F64.le_refl_of_not_nan (by decide)
  brightHigh := F64.le_of_lt (Config.zero_lt_maxGain hc)
  rateFinite := show F64.isFinite Config.defaultSr = true by decide
  rateLow := show F64.le F64.one Config.defaultSr = true by decide
  delayCache := ⟨_, _, rfl, rfl⟩
  toneCache := ⟨_, rfl⟩
  dcCache := ⟨_, rfl⟩
  factorCache := ⟨_, rfl⟩
  causeErr := by simp
  rejectedData := nofun

theorem takeReset_inv {s : State} (hc : s.cfg.valid = true) (rest : List Input) : (takeReset rest s).Inv :=
  { resetOf_inv hc (s.freeSeq + 1) with }

end Sys2Proof.Machine

namespace Sys2Proof

open Sys2Proof.Machine

/-- Settles O18: the registers of `resetOf` clause by clause. -/
theorem invariantHoldsAtEveryReset : Obligations.InvariantHoldsAtEveryReset := fun _ k hc => resetOf_inv hc k

/-- Settles O17: the standard configuration is one that elaborates. -/
theorem invariantHoldsAtReset : Obligations.InvariantHoldsAtReset :=
  resetOf_inv (c := Config.standard) (by decide +kernel) 0

/-- Settles O19: an idle step changes nothing, a reset starts anew, a command keeps the invariant by its result. -/
theorem everyStepKeepsTheInvariant : Obligations.EveryStepKeepsTheInvariant := by
  intro s t hs h
  rcases step_next h with ⟨-, rfl⟩ | ⟨f, rest, -, rfl⟩ | ⟨tr, rest, -, hcmd⟩
  · exact hs
  · exact takeReset_inv hs.cfgValid rest
  · exact hcmd.inv (hs.accept rest)

end Sys2Proof

/-! SUPPORT. Proofs of the family 10_state, part 3: who writes which register (O44, O45). -/

namespace Sys2Proof.Machine

/-! ## The writers of each register (10_state.md R23 to R31, R34) -/

namespace CommandResult

variable {s t : State} {rest : List Input} {d : Except Cause Instr} (h : CommandResult (accept rest s) d t)
include h

theorem sameFixed : SameFixed s t := by
  cases h <;> constructor <;> simp

theorem sameDelay (hd : ∀ a, d ≠ .ok (.setDelay a)) : SameDelay s t := by
  cases h with
  | setDelay a => exact absurd rfl (hd a)
  | _ => constructor <;> simp

theorem sameG (hd : ∀ g, d ≠ .ok (.setGain g)) : t.G = s.G := by
  cases h with
  | setGain g => exact absurd rfl (hd g)
  | _ => simp

theorem sameB (hd : ∀ b, d ≠ .ok (.setBright b)) : t.B = s.B := by
  cases h with
  | setBright b => exact absurd rfl (hd b)
  | _ => simp

theorem sameRate (hd : ∀ r, d ≠ .ok (.setSr r)) : SameRate s t := by
  cases h with
  | setSr r => exact absurd rfl (hd r)
  | _ => constructor <;> simp

theorem sameTone (hd : ∀ a, d ≠ .ok (.setDelay a) ∧ d ≠ .ok (.setGain a) ∧ d ≠ .ok (.setBright a)) :
    SameTone s t := by
  cases h with
  | setDelay a => exact absurd rfl (hd a).1
  | setGain g => exact absurd rfl (hd g).2.1
  | setBright b => exact absurd rfl (hd b).2.2
  | _ => constructor <;> simp

/-- ERR and ECAUSE are written by a rejection alone, which answers `{1, 0}` (60_exceptions.md R201). -/
theorem keeps_or_sets_err : (t.ERR = s.ERR ∧ t.ECAUSE = s.ECAUSE) ∨
    (t.ERR = true ∧ t.ECAUSE ≠ none ∧ t.resp = some ⟨true, 0#64⟩) := by
  cases h with
  | undecodable c => exact .inr ⟨rfl, nofun, rfl⟩
  | badRate r hr => exact .inr ⟨rfl, nofun, rfl⟩
  | badSelector reg hv => exact .inr ⟨rfl, nofun, rfl⟩
  | _ => exact .inl (by simp)

end CommandResult

end Sys2Proof.Machine

namespace Sys2Proof

open Sys2Proof.Machine

/-- Settles O44: read off from the results of the commands, register by register. -/
theorem parametersHaveTheirOwnWriters : Obligations.ParametersHaveTheirOwnWriters := by
  intro s t tr rest hin h
  have hcmd := step_command hin h
  exact ⟨hcmd.sameFixed, hcmd.sameDelay, hcmd.sameG, hcmd.sameB, hcmd.sameRate, hcmd.sameTone⟩

/-- Settles O45: an idle step changes nothing, and a command writes ERR and ECAUSE only by a rejection. -/
theorem errIsStickyUntilReset : Obligations.ErrIsStickyUntilReset := by
  intro s t h hreset
  have herr : (t.ERR = s.ERR ∧ t.ECAUSE = s.ECAUSE) ∨
      (t.ERR = true ∧ t.ECAUSE ≠ none ∧ t.resp = some ⟨true, 0#64⟩) := by
    rcases step_next h with ⟨-, rfl⟩ | ⟨f, rest, hin, -⟩ | ⟨tr, rest, -, hcmd⟩
    · exact .inl ⟨rfl, rfl⟩
    · exact absurd hin (hreset f rest)
    · exact hcmd.keeps_or_sets_err
  refine ⟨fun hset => ?_, herr⟩
  rcases herr with ⟨hkeep, -⟩ | ⟨htrue, -⟩
  · rw [hkeep, hset]
  · exact htrue

end Sys2Proof

/-! SUPPORT. Proofs of the family 10_state, part 4: what GET reads (O23, O25). -/

namespace Sys2Proof.Machine

/-! ## The STATUS word (10_state.md R34) -/

/-- The number whose digits are the fields of STATUS. -/
def statusNumber (err : Bool) (ecause : Option Cause) (phase : Phase) : Nat :=
  err.toNat + 16 * (causeCode ecause).toNat + 256 * (phaseCode phase).toNat

theorem toNat_append_eq_add {m n : Nat} (x : BitVec m) (y : BitVec n) :
    (x ++ y).toNat = x.toNat * 2 ^ n + y.toNat := by
  rw [BitVec.toNat_append, ← Nat.shiftLeft_add_eq_or_of_lt y.isLt, Nat.shiftLeft_eq]

theorem statusWord_toNat (err : Bool) (ecause : Option Cause) (phase : Phase) :
    (statusWord err ecause phase).toNat = statusNumber err ecause phase := by
  simp only [statusWord, statusNumber, toNat_append_eq_add, BitVec.toNat_ofBool, BitVec.toNat_ofNat]
  omega

theorem regValue_status (s : State) :
    regValue s .status = some (BitVec.ofNat 64 (statusNumber s.ERR s.ECAUSE s.PHASE)) := by
  have hword : (statusWord s.ERR s.ECAUSE s.PHASE).setWidth 64 =
      BitVec.ofNat 64 (statusNumber s.ERR s.ECAUSE s.PHASE) := by
    rw [← statusWord_toNat, BitVec.ofNat_toNat]
  rw [regValue, hword]

/-! ## GET -/

theorem exec_get_of_regValue {s : State} {reg : Reg} {v : F64} (hv : regValue s reg = some v) :
    exec (.get reg) s = .next (respond false v s) := by
  rcases exec_get_cases reg s with ⟨w, hw, he⟩ | ⟨hnone, -⟩
  · rw [he, Option.some.inj (hw.symm.trans hv)]
  · exact nomatch hnone.symm.trans hv

end Sys2Proof.Machine

namespace Sys2Proof

open Sys2Proof.Machine

/-! ## Selectors (10_state.md R35) -/

/-- The selector of a register that exists names that register. -/
theorem Reg.ofSel_sel {c : Config} {reg : Reg} (h : reg.assigned c = true) : Reg.ofSel c reg.sel = some reg := by
  cases reg with
  | lc j =>
    have hn : j.val ≤ c.n := of_decide_eq_true h
    have hsel : (Reg.lc j).sel.toNat = 0x10 + j.val := Nat.mod_eq_of_lt (by omega)
    simp [Reg.ofSel, hsel, hn, show 16 + j.val < 32 by omega]
  | cc j =>
    have hn : j.val ≤ c.n := of_decide_eq_true h
    have hsel : (Reg.cc j).sel.toNat = 0x20 + j.val := Nat.mod_eq_of_lt (by omega)
    simp [Reg.ofSel, hsel, hn, show ¬ 32 + j.val < 16 by omega, show 32 + j.val < 48 by omega]
  | _ => rfl

theorem Instr.get_cmdWord (reg : Reg) : (Instr.get reg).cmdWord = BitVec.ofNat 32 (reg.sel.toNat * 16 + 9) := by
  have hsel := reg.sel.isLt
  apply BitVec.eq_of_toNat_eq
  simp only [Instr.cmdWord, Instr.selField, Instr.op, toNat_append_eq_add, BitVec.toNat_ofNat]
  omega

/-- The word of GET decodes to GET of its register, whatever the lanes (30_encoding.md R82, R88). -/
theorem decode_get {c : Config} {reg : Reg} (h : reg.assigned c = true) (a b x : F64) :
    decode c ⟨(Instr.get reg).cmdWord, a, b, x⟩ = .ok (.get reg) := by
  obtain ⟨hrsv, hsel, hop⟩ : cmdRsv (Instr.get reg).cmdWord = 0#20 ∧ cmdSel (Instr.get reg).cmdWord = reg.sel ∧
      cmdOp (Instr.get reg).cmdWord = 9#4 := Laws.EncodedFields.get reg
  simp [decode, decodeOp, hrsv, hsel, hop, Reg.ofSel_sel h]

/-- The selector `sel` names a register of `s`, and that register holds `v`. -/
def SelectorHolds (s : State) (sel : Nat) (v : F64) : Prop :=
  ∃ reg : Reg, reg.assigned s.cfg = true ∧ sel = reg.sel.toNat ∧ regValue s reg = some v

theorem selectorHolds_lc {s : State} {j : Nat} {v : F64} (hn : j ≤ s.cfg.n) (hj : j < 16) (hv : s.LC_S[j]? = some v) :
    SelectorHolds s (0x10 + j) v :=
  ⟨.lc ⟨j, hj⟩, decide_eq_true hn, (Nat.mod_eq_of_lt (by omega)).symm, by simp [regValue, hn, hv]⟩

theorem selectorHolds_cc {s : State} {j : Nat} {v : F64} (hn : j ≤ s.cfg.n) (hj : j < 16) (hv : s.CC[j]? = some v) :
    SelectorHolds s (0x20 + j) v :=
  ⟨.cc ⟨j, hj⟩, decide_eq_true hn, (Nat.mod_eq_of_lt (by omega)).symm, by simp [regValue, hn, hv]⟩

/-- The selectors of R35, R36 that stand for one register each. -/
theorem selectorHolds_table (s : State) : ∀ p ∈ [
    (0x00, BitVec.ofNat 64 (statusNumber s.ERR s.ECAUSE s.PHASE)),
    (0x01, s.S), (0x02, s.G), (0x03, s.B), (0x04, s.SR), (0x05, s.TA0), (0x06, s.TA1), (0x07, s.DA0),
    (0x08, s.DA1), (0x09, s.DB1), (0x0A, BitVec.ofNat 64 s.CURSOR), (0x0B, s.TX1), (0x0C, s.TX2),
    (0x0D, s.DU1), (0x0E, s.DY1), (0x0F, BitVec.ofNat 64 s.DT_S), (0x30, BitVec.ofNat 64 s.cfg.n),
    (0x31, BitVec.ofNat 64 s.cfg.h), (0x32, BitVec.ofNat 64 s.cfg.minDelay), (0x33, BitVec.ofNat 64 s.cfg.maxDelay),
    (0x34, BitVec.ofNat 64 s.cfg.len), (0x35, s.cfg.maxGain)], SelectorHolds s p.1 p.2 := by
  simp only [List.forall_mem_cons, SelectorHolds]
  exact ⟨⟨.status, rfl, rfl, regValue_status s⟩, ⟨.s, rfl, rfl, rfl⟩, ⟨.g, rfl, rfl, rfl⟩, ⟨.b, rfl, rfl, rfl⟩,
    ⟨.sr, rfl, rfl, rfl⟩, ⟨.ta0, rfl, rfl, rfl⟩, ⟨.ta1, rfl, rfl, rfl⟩, ⟨.da0, rfl, rfl, rfl⟩,
    ⟨.da1, rfl, rfl, rfl⟩, ⟨.db1, rfl, rfl, rfl⟩, ⟨.cursor, rfl, rfl, rfl⟩, ⟨.tx1, rfl, rfl, rfl⟩,
    ⟨.tx2, rfl, rfl, rfl⟩, ⟨.du1, rfl, rfl, rfl⟩, ⟨.dy1, rfl, rfl, rfl⟩, ⟨.dtS, rfl, rfl, rfl⟩,
    ⟨.cfgN, rfl, rfl, rfl⟩, ⟨.cfgH, rfl, rfl, rfl⟩, ⟨.cfgMinDelay, rfl, rfl, rfl⟩, ⟨.cfgMaxDelay, rfl, rfl, rfl⟩,
    ⟨.cfgL, rfl, rfl, rfl⟩, ⟨.cfgMaxGain, rfl, rfl, rfl⟩, nofun⟩

/-- Settles O23: the register of the selector by the table, then what the word decodes to and what GET answers. -/
theorem getReadsTheSelectedRegister : Obligations.GetReadsTheSelectedRegister := by
  intro s a b x sel v h
  have hholds : SelectorHolds s sel v := by
    rcases h with h | ⟨j, hn, hj, rfl, hv⟩ | ⟨j, hn, hj, rfl, hv⟩
    · refine selectorHolds_table s (sel, v) ?_
      rwa [statusNumber, Bool.toNat, Bool.cond_eq_ite]
    · exact selectorHolds_lc hn hj hv
    · exact selectorHolds_cc hn hj hv
  obtain ⟨reg, hassigned, rfl, hv⟩ := hholds
  exact ⟨.get reg, _, Instr.get_cmdWord reg ▸ decode_get hassigned a b x, exec_get_of_regValue hv, rfl⟩

/-! ## The fields of STATUS -/

theorem extract_ofNat {n : Nat} (hn : n < 2 ^ 64) (k w : Nat) :
    ((BitVec.ofNat 64 n).extractLsb' k w).toNat = n / 2 ^ k % 2 ^ w := by
  rw [BitVec.extractLsb'_toNat, BitVec.toNat_ofNat, Nat.mod_eq_of_lt hn, Nat.shiftRight_eq_div_pow]

/-- The digits of STATUS (10_state.md R34): ERR, a gap, the cause, the phase, a gap. -/
theorem statusNumber_digits (err : Bool) (ecause : Option Cause) (phase : Phase) :
    statusNumber err ecause phase % 2 = err.toNat ∧ statusNumber err ecause phase / 2 ^ 1 % 2 ^ 3 = 0 ∧
    statusNumber err ecause phase / 2 ^ 4 % 2 ^ 4 = (causeCode ecause).toNat ∧
    statusNumber err ecause phase / 2 ^ 8 % 2 ^ 2 = (phaseCode phase).toNat ∧
    statusNumber err ecause phase < 2 ^ 10 := by
  have herr := err.toNat_lt
  have hcause := (causeCode ecause).isLt
  have hphase := (phaseCode phase).isLt
  unfold statusNumber
  omega

/-- Settles O25: the fields of the word are the digits of `statusNumber`. -/
theorem statusWordLayout : Obligations.StatusWordLayout := by
  intro s
  refine ⟨_, _, exec_get_of_regValue (regValue_status s), rfl, ?_⟩
  obtain ⟨herr, hgap, hcause, hphase, hlt⟩ := statusNumber_digits s.ERR s.ECAUSE s.PHASE
  have hext := extract_ofNat (hlt.trans (by decide))
  refine ⟨?_, ?_, ?_, ?_, ?_⟩
  · rw [BitVec.getLsbD_ofNat, Nat.testBit_zero, herr]
    cases s.ERR <;> rfl
  · exact BitVec.eq_of_toNat_eq ((hext 1 3).trans hgap)
  · exact BitVec.eq_of_toNat_eq ((hext 10 54).trans (by rw [Nat.div_eq_of_lt hlt]; rfl))
  · rw [hext 4 4, hcause]
    rcases s.ECAUSE with _ | c
    · rfl
    · cases c <;> rfl
  · rw [hext 8 2, hphase]
    cases s.PHASE <;> rfl

end Sys2Proof

/-! SUPPORT. Proofs of the family 10_state, part 5: the reset values (O2, O1). -/

namespace Sys2Proof.F64

/-! ## Operations with `+0.0` -/

theorem pzero_eq_zero : pzero = zero false := by decide

theorem value_of_isZero {x : F64} (h : isZero x = true) : value x = 0 := by
  rw [← abs_eq_zero, abs_value, Nat.cast_eq_zero, scaled_eq_zero]
  simpa [isZero] using h

theorem isZero_zero (b : Bool) : isZero (zero b) = true := by simp [isZero]

/-- `+0.0` and a zero of either sign sum to `+0.0`. -/
theorem add_pzero_zero (ν : NanSeed) (b : Bool) : add ν pzero (zero b) = pzero := by
  have hz := isZero_zero
  rw [pzero_eq_zero, add_of_sum_zero ν (isFinite_of_isZero (hz _)) (isFinite_of_isZero (hz _))
    (by rw [value_of_isZero (hz _), value_of_isZero (hz _), add_zero]), sign_zero, Bool.false_and]

theorem sub_pzero_pzero (ν : NanSeed) : sub ν pzero pzero = pzero := by
  rw [sub, show neg pzero = zero true by decide, add_pzero_zero]

/-- `+0.0` times a finite number is a zero of that number's sign. -/
theorem mul_pzero_left (ν : NanSeed) {c : F64} (hc : isFinite c = true) : mul ν pzero c = zero (sign c) := by
  have h := (mul_eq_zero_or_not ν (a := pzero) (by decide) hc).1
    (by rw [value_of_isZero (x := pzero) (by decide), zero_mul, abs_zero]; exact Int.natCast_nonneg _)
  rw [h, pzero_eq_zero, sign_zero, Bool.false_bne]

/-- `+0.0` divided by a positive number or infinity is `+0.0`. -/
theorem div_pzero_left (ν : NanSeed) {x : F64} (hnan : isNaN x = false) (hsign : sign x = false)
    (hz : isZero x = false) : div ν pzero x = pzero := by
  cases hinf : isInf x with
  | true => rw [eq_inf_of_isInf hinf, div_inf_right ν _ (by decide), hsign]; decide
  | false =>
    have h := (div_eq_zero_or_not ν (a := pzero) (by decide) (isFinite_iff.mpr ⟨hnan, hinf⟩) hz).1
      (by rw [value_of_isZero (x := pzero) (by decide), abs_zero, zero_mul, mul_zero]; exact abs_nonneg _)
    rw [h, hsign]
    decide

/-- A positive sum is rounded to a positive number or infinity. -/
theorem add_of_pos (ν : NanSeed) {a b : F64} (ha : isFinite a = true) (hb : isFinite b = true)
    (h : 0 < value a + value b) :
    isNaN (add ν a b) = false ∧ sign (add ν a b) = false ∧ isZero (add ν a b) = false := by
  refine ⟨?_, ?_, (add_eq_zero_or_not ν ha hb).2 h.ne'⟩ <;> rw [add_of_sum_ne_zero ν ha hb h.ne']
  · exact isNaN_ofRatio _ _ _
  · rw [sign_ofRatio, decide_eq_false (by omega)]

end Sys2Proof.F64

namespace Sys2Proof

open F64 Sys2Proof.Machine

/-- With gain and brightness `+0.0` every numerator of R107 is `+0.0`, and above a cosine of -1 its divisor is
positive. -/
theorem toneRaw_pzero (ν : NanSeed) {c : F64} (hc : isFinite c = true) (hlt : lt (neg one) c = true) :
    toneRaw ν c pzero pzero = (pzero, pzero) := by
  have hone : isFinite one = true := by decide
  have hpos : 0 < value one + value c := by
    have h := (comparisonsCompareValues.1 (neg one) c ((isFinite_neg one).trans hone) hc).1.mp hlt
    rw [value_neg] at h
    omega
  obtain ⟨hnan, hsign, hz⟩ := add_of_pos (ν.site 3) hone hc hpos
  have hbg : mul (ν.site 0) pzero pzero = pzero := by
    rw [mul_pzero_left _ (by decide)]
    decide
  simp only [toneRaw, hbg, mul_pzero_left _ hc, add_pzero_zero, div_pzero_left _ hnan hsign hz, sub_pzero_pzero]
  rw [div_pzero_left _ (by decide) (by decide) (by decide)]

/-- Settles O2: `toneRaw_pzero`, which the stability clamp leaves alone; the reset coefficients are of that form by
definition. -/
theorem openLoopToneIsZero : Obligations.OpenLoopToneIsZero := by
  refine ⟨fun ν c hc hlt => ?_, fun c k => ⟨_, _, rfl⟩⟩
  rw [toneFrom, toneRaw_pzero ν hc hlt]
  decide

/-- Settles O1: `State.reset` is one state, and the kernel computes its registers. -/
theorem resetRegisterValues : Obligations.ResetRegisterValues := ⟨fun _ => rfl, by decide +kernel⟩

end Sys2Proof

/-! SUPPORT. Proofs of the family 20_memory, part 1: the bytes of an adapter, queued commands and the delay line (O10, O21,
O36). -/

namespace Sys2Proof

/-! ## Bytes of a number (20_memory.md R64) -/

theorem length_bytesLE (k w : Nat) : (bytesLE k w).length = k := by
  induction k generalizing w with
  | zero => rfl
  | succ k ih => rw [bytesLE, List.length_cons, ih]

/-- Byte `k` is the digit of `w` to the base 256 at the place `k`. -/
theorem getElem?_bytesLE {n k : Nat} (hk : k < n) (w : Nat) :
    (bytesLE n w)[k]? = some (BitVec.ofNat 8 (w / 256 ^ k)) := by
  induction n generalizing k w with
  | zero => exact absurd hk (Nat.not_lt_zero k)
  | succ n ih =>
    cases k with
    | zero => rw [bytesLE, List.getElem?_cons_zero, pow_zero, Nat.div_one]
    | succ k => rw [bytesLE, List.getElem?_cons_succ, ih (by omega), Nat.div_div_eq_div_mul, pow_succ' 256 k]

/-- The bytes joined give back as much of the number as they hold. -/
theorem ofBytesLE_bytesLE (k w : Nat) : ofBytesLE (bytesLE k w) = w % 256 ^ k := by
  induction k generalizing w with
  | zero => rw [pow_zero, Nat.mod_one, bytesLE, ofBytesLE]
  | succ k ih => rw [bytesLE, ofBytesLE, ih, BitVec.toNat_ofNat, pow_succ' 256 k, Nat.mod_mul]

/-- Settles O10: the digits of the word to the base 256, and a word has eight of them. -/
theorem adapterBytesAreLittleEndian : Obligations.AdapterBytesAreLittleEndian := by
  refine fun w => ⟨length_bytesLE 8 _, fun k hk => ?_, ?_⟩
  · have hbase : 256 ^ k = 2 ^ (8 * k) := (pow_mul 2 8 k).symm
    rw [adapterBytes, getElem?_bytesLE hk, BitVec.extractLsb', Nat.shiftRight_eq_div_pow, hbase]
  · have hw : w.toNat < 256 ^ 8 := w.isLt
    rw [adapterWord, adapterBytes, ofBytesLE_bytesLE, Nat.mod_eq_of_lt hw, BitVec.ofNat_toNat, BitVec.setWidth_eq]

/-! ## Commands as transactions -/

theorem encodedFields (i : Instr) : Laws.EncodedFields.Statement i := by
  cases i <;> exact cmd_fields _ _

/-- The encoder's transaction decodes to its command (30_encoding.md R82, R83, R88). -/
theorem decode_encode {c : Config} {i : Instr} (h : i.wellFormed c = true) : decode c (encode i) = .ok i := by
  obtain ⟨hrsv, hsel, hop⟩ := encodedFields i
  cases i with
  | get reg => exact decode_get h 0 0 0
  | _ => rw [decode, decodeOp, hrsv, hsel, hop]; rfl

end Sys2Proof

namespace Sys2Proof.Machine

/-! ## Commands in a queue (20_memory.md R70) -/

/-- The step of a pending well-formed command is its meaning on the state with the input taken. -/
theorem step_of_encode {s : State} {i : Instr} {rest : List Input} (hvalid : s.cfg.valid = true)
    (hphase : s.PHASE ≠ .uninitialized) (hi : i.wellFormed s.cfg = true)
    (hin : s.inbox = .command (encode i) :: rest) : step s = exec i (accept rest s) := by
  rw [step, fetch, if_pos hvalid, hin]
  simp only [if_neg hphase, decode_encode hi]

namespace CommandResult

variable {s t : State} {d : Except Cause Instr} (h : CommandResult s d t)
include h

theorem sameInputs : SameInputs s t := by
  cases h <;> constructor <;> simp

/-- No command goes back before the first reset (10_state.md R33). -/
theorem started (hphase : s.PHASE ≠ .uninitialized) : t.PHASE ≠ .uninitialized := by
  cases h with
  | clear => exact nofun
  | sample i v hi hcursor => exact nofun
  | _ => simpa using hphase

end CommandResult

section
variable {s : State}

theorem run_succ_of_next {t : State} (h : step s = .next t) (k : Nat) : core.run (k + 1) s = core.run k t := by
  simp [Host.Core.run, show core.step s = _ from h]

theorem run_succ_of_fault {r : Fault} (h : step s = .fault r) (k : Nat) : core.run (k + 1) s = .fault r := by
  simp [Host.Core.run, show core.step s = _ from h]

theorem run_succ_of_refused {r : Refusal} (h : step s = .refused r) (k : Nat) : core.run (k + 1) s = .refused r := by
  simp [Host.Core.run, show core.step s = _ from h]

end

/-- A command keeps the premises (the configuration, a PHASE after reset) and takes its own input alone, so the queue
goes on as before. -/
theorem run_eq_runInstrs (is : List Instr) {s : State} {rest : List Input} (hvalid : s.cfg.valid = true)
    (hphase : s.PHASE ≠ .uninitialized) (hwf : ∀ i ∈ is, i.wellFormed s.cfg = true)
    (hin : s.inbox = commandsOf is ++ rest) : core.run is.length s = runInstrs is s := by
  induction is generalizing s with
  | nil => rfl
  | cons i is ih =>
    have hstep : step s = exec i (accept s.inbox.tail s) := by
      have hcons : s.inbox = .command (encode i) :: (commandsOf is ++ rest) := hin
      rw [hcons]
      exact step_of_encode hvalid hphase (hwf i List.mem_cons_self) hcons
    rw [List.length_cons, runInstrs]
    cases hexec : exec i (accept s.inbox.tail s) with
    | fault r => exact run_succ_of_fault (hstep.trans hexec) _
    | refused r => exact run_succ_of_refused (hstep.trans hexec) _
    | next t =>
      have hcmd := commandResult_of_exec hexec
      have hcfg : t.cfg = s.cfg := hcmd.sameFixed.cfg
      rw [run_succ_of_next (hstep.trans hexec)]
      refine ih (hcfg ▸ hvalid) (hcmd.started hphase) (fun j hj => ?_) ?_
      · rw [hcfg]
        exact hwf j (List.mem_cons_of_mem i hj)
      · rw [hcmd.sameInputs.inbox, accept_inbox, hin]
        rfl

/-! ## The delay line (20_memory.md R62, R63) -/

/-- Offset 0 names the same word as offset `L` (R62). -/
theorem tapIndex_zero_eq_tapIndex_len (cursor len : Nat) : tapIndex cursor 0 len = tapIndex cursor len len := by
  simp [tapIndex]

/-- An offset strictly between 0 and `L` does not read the word at the cursor. -/
theorem tapIndex_ne_cursor (cursor : Nat) {o len : Nat} (ho : 0 < o) (ho' : o < len) :
    tapIndex cursor o len ≠ cursor := by
  intro h
  have hmod : ((cursor : Int) - o) % len = cursor := by
    have hnonneg : 0 ≤ ((cursor : Int) - o) % len := Int.emod_nonneg _ (by omega)
    exact (Int.toNat_of_nonneg hnonneg).symm.trans (congrArg Nat.cast h)
  have hdvd : (len : Int) ∣ o := by
    have hsub := Int.dvd_self_sub_of_emod_eq hmod
    rwa [sub_sub_cancel_left, dvd_neg] at hsub
  exact absurd (Nat.le_of_dvd ho (Int.natCast_dvd_natCast.mp hdvd)) (by omega)

theorem tapIndex_succ (cursor o len : Nat) :
    tapIndex ((cursor + 1) % len) (o + 1) len = tapIndex cursor o len := by
  rw [tapIndex, tapIndex, Int.natCast_mod, Int.emod_sub_emod]
  congr 2
  omega

theorem tapIndex_zero {cursor len : Nat} (h : cursor < len) : tapIndex cursor 0 len = cursor := by
  rw [tapIndex, Nat.cast_zero, sub_zero, ← Int.natCast_mod, Int.toNat_natCast, Nat.mod_eq_of_lt h]

/-- A STEP of any mode with the cursor in range stores a sample and answers its output. -/
theorem exec_of_isStep {s : State} {i : Instr} (hi : isStep i = true) (hcursor : s.CURSOR < s.cfg.len) :
    ∃ v, exec i s = .next (respond false v.y (storeSample v s)) := by
  cases i with
  | stepA e => exact ⟨_, oneSample_of_cursor hcursor _ _ _ _ _⟩
  | stepB e d => exact ⟨_, oneSample_of_cursor hcursor _ _ _ _ _⟩
  | stepC e g d => exact ⟨_, oneSample_of_cursor hcursor _ _ _ _ _⟩
  | _ => exact nomatch hi

/-- After a sample is stored, the offset `o + 1` reads the word that `o` named before, or the sample at the cursor. -/
theorem readAt_storeSample_succ {s : State} (hwf : s.BUF.wf) (v : Sample) (o : Nat) :
    readAt (storeSample v s) (o + 1) = if s.CURSOR = tapIndex s.CURSOR o s.cfg.len then v.y else readAt s o := by
  rw [readAt, storeSample_BUF, storeSample_CURSOR, storeSample_cfg, tapIndex_succ, Memory.read_write _ _ _ _ hwf.1,
    readAt]

end Sys2Proof.Machine

namespace Sys2Proof

open Sys2Proof.Machine

/-- Settles O21, by induction on the queue (`run_eq_runInstrs`). -/
theorem queuedCommandsRunInOrder : Obligations.QueuedCommandsRunInOrder :=
  fun is _ _ hvalid hphase hwf hin => run_eq_runInstrs is hvalid hphase hwf hin

/-- Settles O36: the offset `k + 1` after a STEP is the index of the offset `k` before it, which for `k = 0` is the word
just written and for no other `k` below `L`. -/
theorem stepShiftsTheDelayLine : Obligations.StepShiftsTheDelayLine := by
  intro s i hcursor hwf hi
  obtain ⟨v, hv⟩ := exec_of_isStep hi hcursor
  refine ⟨?_, _, hv, ?_, fun k hk hk' => ?_⟩
  · rw [readAt, tapIndex_zero_eq_tapIndex_len, readAt]
  · exact (readAt_storeSample_succ hwf v 0).trans (if_pos (tapIndex_zero hcursor).symm)
  · exact (readAt_storeSample_succ hwf v k).trans (if_neg (tapIndex_ne_cursor _ hk hk').symm)

end Sys2Proof

/-! SUPPORT. Proofs of the family 20_memory, part 2: which sums and floors are exact, and the split of a delay (O37). -/

namespace Sys2Proof.F64

/-! ## Representable magnitudes -/

/-- A whole number of up to 53 bits times a power of two has a magnitude pattern. -/
theorem exists_scaledMag_eq_mul_two_pow (q : Nat) {j : Nat} (hj : j < 2 ^ 53) : ∃ m, scaledMag m = j * 2 ^ q := by
  induction q generalizing j with
  | zero => exact ⟨_, scaledMag_binade (q := 0) (.inl rfl) hj.le⟩
  | succ q ih =>
    rcases Nat.lt_or_ge j (2 ^ 52) with hsub | hnorm
    · obtain ⟨m, hm⟩ := ih (j := j * 2) (by omega)
      exact ⟨m, by rw [hm, pow_succ' 2 q, Nat.mul_assoc]⟩
    · exact ⟨_, scaledMag_binade (.inr hnorm) hj.le⟩

theorem two_pow_dvd_two_pow {q e : Nat} (h : 2 ^ q < 2 * 2 ^ e) : 2 ^ q ∣ 2 ^ e := by
  rw [← pow_succ' 2 e, Nat.pow_lt_pow_iff_right (by decide)] at h
  exact pow_dvd_pow 2 (by omega)

/-- Whole multiples of the unit in the last place of `x` that are not above `x` are represented. For an `x` below
`2 ^ 53` this unit divides `1.0`. -/
theorem exists_ulp {x : F64} (hfin : isFinite x = true) (hx : scaled x < 2 ^ 53 * unit) :
    ∃ u, u ∣ unit ∧ u ∣ scaled x ∧ ∀ n, u ∣ n → n ≤ scaled x → ∃ m, m < infMag ∧ scaledMag m = n := by
  have hmag : mag x < infMag := of_decide_eq_true hfin
  obtain ⟨q, j, hqj, hnorm, hj⟩ := exists_binade (mag x)
  have hscaled : scaled x = j * 2 ^ q := by rw [scaled, hqj, scaledMag_binade hnorm hj.le]
  have hq : 2 ^ q ∣ unit := by
    rcases hnorm with rfl | hnorm
    · exact one_dvd _
    · have hle : 2 ^ 52 * 2 ^ q ≤ scaled x := hscaled ▸ Nat.mul_le_mul_right _ hnorm
      have hlt : 2 ^ q < 2 * unit := by omega
      unfold unit at hlt ⊢
      exact two_pow_dvd_two_pow hlt
  refine ⟨2 ^ q, hq, ⟨j, by rw [hscaled, Nat.mul_comm]⟩, ?_⟩
  rintro _ ⟨i, rfl⟩ hle
  have hi : i ≤ j := Nat.le_of_mul_le_mul_left (by rwa [hscaled, Nat.mul_comm j] at hle) (Nat.two_pow_pos q)
  obtain ⟨m, hm⟩ := exists_scaledMag_eq_mul_two_pow q (hi.trans_lt hj)
  rw [Nat.mul_comm] at hm
  exact ⟨m, (scaledMag_strictMono.le_iff_le.mp (hm.trans_le hle)).trans_lt hmag, hm⟩

/-! ## Exact operations -/

/-- A sum whose exact value is represented is exact. -/
theorem add_exact (ν : NanSeed) {a b : F64} {n : Nat} (ha : isFinite a = true) (hb : isFinite b = true)
    (hsum : value a + value b = n) (h : ∃ m, m < infMag ∧ scaledMag m = n) :
    isFinite (add ν a b) = true ∧ value (add ν a b) = n := by
  by_cases hzero : value a + value b = 0
  · have hz := isZero_zero (sign a && sign b)
    rw [add_of_sum_zero ν ha hb hzero, value_of_isZero hz, ← hsum, hzero]
    exact ⟨isFinite_of_isZero hz, rfl⟩
  · obtain ⟨m, hm, rfl⟩ := h
    have hround : roundMag (value a + value b).natAbs 1 = m := by
      rw [hsum, Int.natAbs_natCast, ← Nat.mul_one (scaledMag m), roundMag_scaledMag hm Nat.one_pos]
    have hpos : ¬ value a + value b < 0 := by omega
    rw [add_of_sum_ne_zero ν ha hb hzero, isFinite, mag_ofRatio, value_ofRatio, hround, decide_eq_false hpos]
    exact ⟨decide_eq_true hm, rfl⟩

/-! ## The whole part of a value -/

theorem scaled_of_value_eq {x : F64} {n : Nat} (h : value x = n) : scaled x = n := by
  have habs := abs_value x
  rw [h, Nat.abs_cast] at habs
  exact (Int.ofNat_inj.mp habs).symm

/-- A value of `k` whole units and a rest below the unit has the floor `k`. -/
theorem floorInt_eq {x : F64} {k r : Nat} (hx : value x = k * unit + r) (hr : r < unit) : floorInt x = k := by
  have hunit : (unit : Int) ≠ 0 := by omega
  rw [floorInt, hx, add_comm, Int.add_mul_ediv_right _ _ hunit, Int.ediv_eq_zero_of_lt (by omega) (by omega), zero_add]

theorem floor_eq {x : F64} {k r : Nat} (hfin : isFinite x = true) (hx : value x = k * unit + r) (hr : r < unit)
    (hk : 0 < k) : floor x = ofNat k := by
  have hne : (k : Int) ≠ 0 := by omega
  rw [floor, if_pos hfin, floorInt_eq hx hr, if_neg hne, ofNat]

theorem toInt_ofNat {k : Nat} (hk : k < 2 ^ 53) : toInt (ofNat k) = k :=
  floorInt_eq (r := 0) (by rw [(ofNat_exact hk).2, Nat.cast_zero, add_zero]) unit_pos

/-- A number between two whole numbers has a whole part between them. -/
theorem exists_whole_and_rest {x : F64} {j k : Nat} (hj : j < 2 ^ 53) (hk : k < 2 ^ 53)
    (hlo : le (ofNat j) x = true) (hhi : le x (ofNat k) = true) :
    isFinite x = true ∧ ∃ i r : Nat, j ≤ i ∧ i ≤ k ∧ r < unit ∧ value x = i * unit + r := by
  obtain ⟨hjfin, hjval⟩ := ofNat_exact hj
  obtain ⟨hkfin, hkval⟩ := ofNat_exact hk
  have hlow : (j * unit : Int) ≤ value x := hjval ▸ (value_le_value_iff _ _).mpr (le_iff.mp hlo).2.2
  have hhigh : value x ≤ k * unit := hkval ▸ (value_le_value_iff _ _).mpr (le_iff.mp hhi).2.2
  obtain ⟨n, hn⟩ := Int.eq_ofNat_of_zero_le (Int.le_trans (mod_cast Nat.zero_le (j * unit)) hlow)
  rw [hn] at hlow hhigh ⊢
  refine ⟨isFinite_of_between hjfin hkfin hlo hhi, n / unit, n % unit, ?_, ?_, Nat.mod_lt _ unit_pos, ?_⟩
  · exact (Nat.le_div_iff_mul_le unit_pos).mpr (mod_cast hlow)
  · exact Nat.div_le_of_le_mul (Nat.mul_comm k unit ▸ mod_cast hhigh)
  · exact mod_cast (Nat.div_add_mod' n unit).symm

end Sys2Proof.F64

namespace Sys2Proof

open F64

/-! ## The split of a delay (40_datapath.md R100, R101) -/

section
variable {c : Config} {s : F64} {k r : Nat} (ν : NanSeed) (hfin : isFinite s = true)
  (hs : value s = k * unit + r) (hr : r < unit) (hpos : 0 < k)
include hfin hs hr hpos

/-- The offset of tap 0 is the whole part of the delay less `H`. -/
theorem split_dt (hk : k < 2 ^ 53) : (split ν c s).dt = k - c.h := by
  rw [split, floor_eq hfin hs hr hpos, toInt_ofNat hk, Int.toNat_natCast]

/-- The evaluation point is the rest of the delay plus `H`. Both of its roundings are exact: the results are multiples of
the unit in the delay's last place and not above the delay. -/
theorem split_p_exact (hh : c.h ≤ k) (hk : k < 2 ^ 53) :
    isFinite (split ν c s).p = true ∧ value (split ν c s).p = r + c.h * unit := by
  obtain ⟨hkfin, hkval⟩ := ofNat_exact hk
  obtain ⟨hhfin, hhval⟩ := ofNat_exact (hh.trans_lt hk)
  have hscaled : scaled s = k * unit + r := scaled_of_value_eq (by rw [hs, Nat.cast_add, Nat.cast_mul])
  have hbound : scaled s < 2 ^ 53 * unit := by
    calc scaled s < (k + 1) * unit := by rw [hscaled, Nat.add_mul, Nat.one_mul]; exact Nat.add_lt_add_left hr _
      _ ≤ 2 ^ 53 * unit := Nat.mul_le_mul_right unit hk
  obtain ⟨u, huunit, hu, hrep⟩ := exists_ulp hfin hbound
  have hur : u ∣ r := (Nat.dvd_add_right (huunit.mul_left k)).mp (hscaled ▸ hu)
  have hhk : c.h * unit ≤ k * unit := Nat.mul_le_mul_right unit hh
  obtain ⟨hdfin, hdval⟩ : isFinite (sub (ν.site 0) s (ofNat k)) = true ∧ value (sub (ν.site 0) s (ofNat k)) = r :=
    add_exact (ν.site 0) hfin (by rw [isFinite_neg, hkfin]) (by rw [value_neg, hkval, hs, add_neg_cancel_comm])
      (hrep r hur (by omega))
  have hp := add_exact (ν.site 1) (n := r + c.h * unit) hdfin hhfin
    (by rw [hdval, hhval, Nat.cast_add, Nat.cast_mul]) (hrep _ (hur.add (huunit.mul_left c.h)) (by omega))
  rw [Nat.cast_add, Nat.cast_mul] at hp
  rwa [split, floor_eq hfin hs hr hpos]

end

/-- Settles O37: the whole part of the delay is at least `H + 1`, so the split is exact, and with `N = 2 * H + 1` the last
tap is at most `MAX_DELAY + H = L - 1`. -/
theorem tapOffsetsStayInTheBuffer : Obligations.TapOffsetsStayInTheBuffer := by
  intro c ν s hc hlo hhi
  obtain ⟨hodd, hpos, hn, -⟩ := c.valid_iff.mp hc
  obtain ⟨hmin, hmin3, hlt⟩ := c.minDelay_bounds hn
  have hmax := Config.maxDelay_lt hc
  have horder : c.n = 2 * c.h + 1 := by unfold Config.h; omega
  have hlen : c.len = c.maxDelay + (c.n + 1) / 2 := rfl
  obtain ⟨hfin, k, r, hk, hk', hr, hs⟩ := exists_whole_and_rest (by omega) (by omega) hlo hhi
  obtain ⟨hpfin, hp⟩ := split_p_exact (c := c) ν hfin hs hr (by omega) (by omega) (by omega)
  rw [split_dt ν hfin hs hr (by omega) (by omega), hp, hs]
  refine ⟨fun j hj => ⟨by omega, by omega⟩, hpfin, ?_, by omega, ?_⟩
  · rw [Nat.cast_sub (by omega)]
    ring
  · rw [add_mul, one_mul]
    omega

end Sys2Proof

/-! SUPPORT. Proofs of the family 30_encoding, part 1: what the decoder makes of a command word (O5, O6, O7, O8). -/

namespace Sys2Proof

open Sys2Proof.Machine

/-! ## Selectors (10_state.md R35) -/

theorem Reg.ofSelLow_of_lt {k : Nat} (h : k < 0x10) :
    ∃ reg, Reg.ofSelLow k = some reg ∧ reg.sel = BitVec.ofNat 8 k ∧ ∀ c, reg.assigned c = true := by
  interval_cases k <;> exact ⟨_, rfl, rfl, fun _ => rfl⟩

theorem Reg.ofSelCfg_of_lt {k : Nat} (h : k < 6) :
    ∃ reg, Reg.ofSelCfg k = some reg ∧ reg.sel = BitVec.ofNat 8 (0x30 + k) ∧ ∀ c, reg.assigned c = true := by
  interval_cases k <;> exact ⟨_, rfl, rfl, fun _ => rfl⟩

theorem Reg.ofSelCfg_add_six (k : Nat) : Reg.ofSelCfg (k + 6) = none := rfl

/-- The number `k` is the selector of a register that configuration `c` has. -/
def SelectorAssigned (c : Config) (k : Nat) : Prop :=
  k < 0x10 ∨ (0x10 ≤ k ∧ k < 0x20 ∧ k ≤ 0x10 + c.n) ∨ (0x20 ≤ k ∧ k < 0x30 ∧ k ≤ 0x20 + c.n) ∨
    (0x30 ≤ k ∧ k ≤ 0x35)

/-- A selector is that of one register of the configuration, or is not assigned. -/
theorem Reg.ofSel_cases (c : Config) (sel : BitVec 8) :
    (SelectorAssigned c sel.toNat ∧ ∃ reg, Reg.ofSel c sel = some reg ∧ reg.sel = sel ∧ reg.assigned c = true) ∨
    (¬ SelectorAssigned c sel.toNat ∧ Reg.ofSel c sel = none) := by
  have hword : BitVec.ofNat 8 sel.toNat = sel := by rw [BitVec.ofNat_toNat, BitVec.setWidth_eq]
  unfold Reg.ofSel SelectorAssigned
  generalize sel.toNat = k at *
  subst hword
  dsimp only
  split_ifs with hlow hlc hn hcc hn'
  · obtain ⟨reg, hreg, hsel, hassigned⟩ := Reg.ofSelLow_of_lt hlow
    exact .inl ⟨by omega, reg, hreg, hsel, hassigned c⟩
  · obtain ⟨j, rfl⟩ := Nat.exists_eq_add_of_le (Nat.le_of_not_lt hlow)
    rw [Nat.add_sub_cancel_left] at hn ⊢
    have hj : j % 16 = j := Nat.mod_eq_of_lt (by omega)
    exact .inl ⟨by omega, _, rfl, by simp [Reg.sel, hj], by simp [Reg.assigned, hj, hn]⟩
  · exact .inr ⟨by omega, rfl⟩
  · obtain ⟨j, rfl⟩ := Nat.exists_eq_add_of_le (Nat.le_of_not_lt hlc)
    rw [Nat.add_sub_cancel_left] at hn' ⊢
    have hj : j % 16 = j := Nat.mod_eq_of_lt (by omega)
    exact .inl ⟨by omega, _, rfl, by simp [Reg.sel, hj], by simp [Reg.assigned, hj, hn']⟩
  · exact .inr ⟨by omega, rfl⟩
  · obtain ⟨j, rfl⟩ := Nat.exists_eq_add_of_le (Nat.le_of_not_lt hcc)
    rw [Nat.add_sub_cancel_left]
    rcases Nat.lt_or_ge j 6 with hj | hj
    · obtain ⟨reg, hreg, hsel, hassigned⟩ := Reg.ofSelCfg_of_lt hj
      exact .inl ⟨by omega, reg, hreg, hsel, hassigned c⟩
    · obtain ⟨k, rfl⟩ := Nat.exists_eq_add_of_le' hj
      exact .inr ⟨by omega, Reg.ofSelCfg_add_six k⟩

/-! ## The fields of CMD (30_encoding.md R81) -/

theorem cmdOp_toNat (w : CmdWord) : (cmdOp w).toNat = w.toNat % 16 := by simp [cmdOp]

theorem cmdSel_toNat (w : CmdWord) : (cmdSel w).toNat = w.toNat / 16 % 256 := by
  simp [cmdSel, Nat.shiftRight_eq_div_pow]

theorem cmdRsv_eq_zero_iff (w : CmdWord) : cmdRsv w = 0#20 ↔ w.toNat < 4096 := by
  have hw := w.isLt
  rw [← BitVec.toNat_inj, cmdRsv, BitVec.extractLsb'_toNat, Nat.shiftRight_eq_div_pow, BitVec.toNat_ofNat]
  omega

/-- A word without reserved bits is put together from its SEL and its OP. -/
theorem cmd_eq_append {w : CmdWord} (h : cmdRsv w = 0#20) : w = 0#20 ++ cmdSel w ++ cmdOp w := by
  have hlt := (cmdRsv_eq_zero_iff w).mp h
  apply BitVec.eq_of_toNat_eq
  rw [toNat_append_eq_add, toNat_append_eq_add, cmdSel_toNat, cmdOp_toNat, BitVec.toNat_ofNat]
  omega

/-! ## The outcomes of the decoder (30_encoding.md R88) -/

section
variable {c : Config} {t : Transaction}

/-- The words below 9 are the words of the commands without a SEL field. -/
theorem decode_of_lt (c : Config) (h : t.cmd.toNat < 9) :
    ∃ i, decode c t = .ok i ∧ t.cmd = i.cmdWord ∧ i.wellFormed c = true := by
  have hop : cmdOp t.cmd = BitVec.ofNat 4 t.cmd.toNat := BitVec.eq_of_toNat_eq (cmdOp_toNat t.cmd)
  have hrsv : cmdRsv t.cmd = 0#20 := (cmdRsv_eq_zero_iff t.cmd).mpr (by omega)
  have hsel : cmdSel t.cmd = 0#8 := BitVec.eq_of_toNat_eq (by rw [cmdSel_toNat, BitVec.toNat_ofNat]; omega)
  rw [cmd_eq_append hrsv, decode, decodeOp, hop, hrsv, hsel]
  generalize t.cmd.toNat = n at h
  interval_cases n <;> exact ⟨_, rfl, rfl, rfl⟩

theorem decode_get_of_some {reg : Reg} (hrsv : cmdRsv t.cmd = 0#20) (hop : cmdOp t.cmd = 9#4)
    (hreg : Reg.ofSel c (cmdSel t.cmd) = some reg) : decode c t = .ok (.get reg) := by
  simp [decode, decodeOp, hrsv, hop, hreg]

theorem decode_get_of_none (hrsv : cmdRsv t.cmd = 0#20) (hop : cmdOp t.cmd = 9#4)
    (hreg : Reg.ofSel c (cmdSel t.cmd) = none) : decode c t = .error .badSelector := by
  simp [decode, decodeOp, hrsv, hop, hreg]

end

/-- What the decoder answers, by the number `CMD`: a rejection with its cause, or the command whose word `CMD` is. -/
inductive Decoded (c : Config) (t : Transaction) : Except Cause Instr → Prop
  | reservedOpcode (hop : 10 ≤ t.cmd.toNat % 16) : Decoded c t (.error .reservedOpcode)
  | reservedBits (hop : t.cmd.toNat % 16 < 10) (hrsv : 4096 ≤ t.cmd.toNat) : Decoded c t (.error .reservedBits)
  | selNotZero (hop : t.cmd.toNat % 16 < 9) (hrsv : t.cmd.toNat < 4096) (hsel : 16 ≤ t.cmd.toNat) :
      Decoded c t (.error .selNotZero)
  | badSelector (hop : t.cmd.toNat % 16 = 9) (hrsv : t.cmd.toNat < 4096)
      (hsel : ¬ SelectorAssigned c (t.cmd.toNat / 16)) : Decoded c t (.error .badSelector)
  | get (reg : Reg) (hop : t.cmd.toNat % 16 = 9) (hrsv : t.cmd.toNat < 4096)
      (hsel : SelectorAssigned c (t.cmd.toNat / 16)) (hword : t.cmd = (Instr.get reg).cmdWord)
      (hreg : reg.assigned c = true) : Decoded c t (.ok (.get reg))
  | noSelector (i : Instr) (hlt : t.cmd.toNat < 9) (hword : t.cmd = i.cmdWord) (hi : i.wellFormed c = true) :
      Decoded c t (.ok i)

/-- The outcomes of a word with the opcode of GET and no reserved bits, by its selector (30_encoding.md R86). -/
theorem decoded_decode_get (c : Config) {t : Transaction} (hrsv : cmdRsv t.cmd = 0#20) (hop : cmdOp t.cmd = 9#4) :
    Decoded c t (decode c t) := by
  have hlt : t.cmd.toNat < 4096 := (cmdRsv_eq_zero_iff t.cmd).mp hrsv
  have hop' : t.cmd.toNat % 16 = 9 := (cmdOp_toNat t.cmd).symm.trans (congrArg BitVec.toNat hop)
  have hsel : (cmdSel t.cmd).toNat = t.cmd.toNat / 16 := by
    rw [cmdSel_toNat]
    omega
  rcases Reg.ofSel_cases c (cmdSel t.cmd) with ⟨hassigned, reg, hsome, hreg, hwf⟩ | ⟨hassigned, hnone⟩ <;>
    rw [hsel] at hassigned
  · have hword : t.cmd = (Instr.get reg).cmdWord := by
      rw [Instr.cmdWord, Instr.selField, hreg, Instr.op, ← hop]
      exact cmd_eq_append hrsv
    rw [decode_get_of_some hrsv hop hsome]
    exact .get reg hop' hlt hassigned hword hwf
  · rw [decode_get_of_none hrsv hop hnone]
    exact .badSelector hop' hlt hassigned

/-- The checks of R88 one after another. -/
theorem decoded_decode (c : Config) (t : Transaction) : Decoded c t (decode c t) := by
  have hop := cmdOp_toNat t.cmd
  have hrsv := cmdRsv_eq_zero_iff t.cmd
  by_cases hreserved : 10 ≤ t.cmd.toNat % 16
  · rw [decode, if_pos (hop ▸ hreserved)]
    exact .reservedOpcode hreserved
  by_cases hbits : cmdRsv t.cmd = 0#20
  · have hlt := hrsv.mp hbits
    by_cases hget : cmdOp t.cmd = 9#4
    · exact decoded_decode_get c hbits hget
    · have hget' : t.cmd.toNat % 16 ≠ 9 := fun h => hget (BitVec.eq_of_toNat_eq (hop.trans h))
      by_cases hsel : cmdSel t.cmd = 0#8
      · have hsel' : t.cmd.toNat / 16 % 256 = 0 := (cmdSel_toNat t.cmd).symm.trans (congrArg BitVec.toNat hsel)
        have hsmall : t.cmd.toNat < 9 := by omega
        obtain ⟨i, hi, hword, hwf⟩ := decode_of_lt c hsmall
        rw [hi]
        exact .noSelector i hsmall hword hwf
      · have hsel' : 16 ≤ t.cmd.toNat := by
          by_contra hsmall
          exact hsel (BitVec.eq_of_toNat_eq (by rw [cmdSel_toNat, BitVec.toNat_ofNat]; omega))
        rw [decode, if_neg (by omega), if_neg (not_not.mpr hbits), if_pos ⟨hget, hsel⟩]
        exact .selNotZero (by omega) hlt hsel'
  · rw [decode, if_neg (by omega), if_pos hbits]
    exact .reservedBits (by omega) (Nat.le_of_not_lt (mt hrsv.mpr hbits))

/-- Settles O6: `decode_encode`. -/
theorem decodeOfEncodeIsIdentity : Obligations.DecodeOfEncodeIsIdentity := fun _ _ h => decode_encode h

/-- Settles O7: the outcomes of `Decoded` exclude each other by the number `CMD`. -/
theorem rejectionCausesInPriority : Obligations.RejectionCausesInPriority := by
  intro c t
  have h := decoded_decode c t
  generalize decode c t = d at h
  cases h <;>
    simp only [SelectorAssigned, Except.error.injEq, reduceCtorEq, true_iff, false_iff, ne_eq, not_false_eq_true,
      and_true] at * <;>
    omega

/-! ## The opcode table (30_encoding.md R83) -/

/-- A field that the mask of a row covers is that of its pattern in every word of the row. -/
theorem extract_eq_of_accepts {r : OpRow} {w : CmdWord} (h : r.accepts w = true) {k n : Nat}
    (hmask : r.mask.extractLsb' k n = BitVec.allOnes n) : w.extractLsb' k n = r.pattern.extractLsb' k n := by
  have hw : w &&& r.mask = r.pattern := of_decide_eq_true h
  rw [← hw, BitVec.extractLsb'_and, hmask, BitVec.and_allOnes]

theorem cmdOp_of_accepts {r : OpRow} (hr : r ∈ opTable) {w : CmdWord} (h : r.accepts w = true) :
    cmdOp w = cmdOp r.pattern :=
  have hmask : ∀ r ∈ opTable, r.mask.extractLsb' 0 4 = BitVec.allOnes 4 := by decide
  extract_eq_of_accepts h (hmask r hr)

/-- No two rows have the same opcode, so a word has one row at most. -/
theorem filter_accepts_eq_singleton {r : OpRow} (hr : r ∈ opTable) {w : CmdWord} (h : r.accepts w = true) :
    opTable.filter (fun q => q.accepts w) = [r] := by
  have hop : ∀ q ∈ opTable, ∀ r ∈ opTable, cmdOp q.pattern = cmdOp r.pattern → q = r := by decide
  have hone : ∀ r ∈ opTable, opTable.filter (fun q => decide (q = r)) = [r] := by decide
  rw [← hone r hr]
  refine List.filter_congr fun q hq => Bool.eq_iff_iff.mpr ?_
  rw [decide_eq_true_iff]
  exact ⟨fun hqw => hop q hq r hr ((cmdOp_of_accepts hq hqw).symm.trans (cmdOp_of_accepts hr h)), fun hqr => hqr ▸ h⟩

/-- The row at the place of a command's opcode is the row of that command. -/
theorem exists_row_of_cmdWord (i : Instr) :
    ∃ r ∈ opTable, r.accepts i.cmdWord = true ∧ r.mnemonic = i.mnemonic := by
  obtain ⟨r, hr, h⟩ : ∃ r, opTable[i.op.toNat]? = some r ∧ r.accepts i.cmdWord = true ∧ r.mnemonic = i.mnemonic := by
    cases i with
    | get reg =>
      have hmask : (0#20 ++ reg.sel ++ 9#4) &&& (0xFFFFF#20 ++ 0#8 ++ 0xF#4) = 0#20 ++ 0#8 ++ 9#4 := by
        rw [BitVec.and_append, BitVec.and_append, BitVec.zero_and, BitVec.and_zero]
        rfl
      exact ⟨_, rfl, decide_eq_true hmask, rfl⟩
    | _ =>
      refine ⟨_, rfl, decide_eq_true ?_, rfl⟩
      rw [Instr.cmdWord, Instr.selField, Instr.op]
      rfl
  exact ⟨r, List.mem_of_getElem? hr, h⟩

theorem cmdRsv_of_accepts_get {w : CmdWord} (h : OpRow.accepts ⟨"GET", 0x00000009#32, 0xFFFFF00F#32⟩ w = true) :
    cmdRsv w = 0#20 :=
  extract_eq_of_accepts h (by decide)

/-- Every row but that of GET is of one word, which is below 9. -/
theorem eq_pattern_of_accepts {r : OpRow} (hr : r ∈ opTable) (hget : r.mnemonic ≠ "GET") {w : CmdWord}
    (h : r.accepts w = true) : w = r.pattern := by
  have hmask : ∀ r ∈ opTable, r.mnemonic ≠ "GET" → r.mask = BitVec.allOnes 32 := by decide
  have hw : w &&& r.mask = r.pattern := of_decide_eq_true h
  rwa [hmask r hr hget, BitVec.and_allOnes] at hw

/-- An accepted word is the word of its command, which exists in the configuration. -/
theorem cmd_eq_cmdWord_of_decode {c : Config} {t : Transaction} {i : Instr} (h : decode c t = .ok i) :
    t.cmd = i.cmdWord ∧ i.wellFormed c = true := by
  cases h ▸ decoded_decode c t with
  | get reg hop hrsv hsel hword hreg => exact ⟨hword, hreg⟩
  | noSelector i hlt hword hi => exact ⟨hword, hi⟩

theorem rows_of_decode {c : Config} {t : Transaction} {i : Instr} (h : decode c t = .ok i) :
    (opTable.filter (fun r => r.accepts t.cmd)).map (fun r => r.mnemonic) = [i.mnemonic] := by
  obtain ⟨r, hr, haccepts, hname⟩ := exists_row_of_cmdWord i
  rw [(cmd_eq_cmdWord_of_decode h).1, filter_accepts_eq_singleton hr haccepts, List.map_singleton, hname]

/-- A word of a row is decoded, by the row of GET if its selector is assigned. -/
theorem exists_decode_of_accepts {c : Config} {t : Transaction} {r : OpRow} (hr : r ∈ opTable)
    (h : r.accepts t.cmd = true) (hsel : r.mnemonic = "GET" → (Reg.ofSel c (cmdSel t.cmd)).isSome = true) :
    ∃ i, decode c t = .ok i := by
  by_cases hget : r.mnemonic = "GET"
  · have hrow : ∀ r ∈ opTable, r.mnemonic = "GET" → r = ⟨"GET", 0x00000009#32, 0xFFFFF00F#32⟩ := by decide
    obtain ⟨reg, hreg⟩ := Option.isSome_iff_exists.mp (hsel hget)
    obtain rfl := hrow r hr hget
    exact ⟨.get reg, decode_get_of_some (cmdRsv_of_accepts_get h) (cmdOp_of_accepts hr h) hreg⟩
  · have hlow : ∀ r ∈ opTable, r.mnemonic ≠ "GET" → r.pattern.toNat < 9 := by decide
    have hlt : t.cmd.toNat < 9 := eq_pattern_of_accepts hr hget h ▸ hlow r hr hget
    obtain ⟨i, hi, -⟩ := decode_of_lt c hlt
    exact ⟨i, hi⟩

/-- Settles O8: a decoded word has one row, so a row that accepts it is the row of its command. -/
theorem acceptedWordsAreTheTable : Obligations.AcceptedWordsAreTheTable := by
  refine ⟨fun c t i hi => ⟨rows_of_decode hi, (cmd_eq_cmdWord_of_decode hi).2⟩, fun c t r hr haccepts hsel => ?_⟩
  obtain ⟨i, hi⟩ := exists_decode_of_accepts hr haccepts hsel
  have hrow := rows_of_decode hi
  rw [filter_accepts_eq_singleton hr haccepts, List.map_singleton] at hrow
  exact ⟨i, hi, (List.singleton_inj.mp hrow).symm⟩

/-- Settles O5: the kernel decodes each word. -/
theorem tableWordsDecode : Obligations.TableWordsDecode := by
  unfold Obligations.TableWordsDecode
  decide

end Sys2Proof

/-! SUPPORT. Proofs of the family 30_encoding, part 2: the step of a pending transaction, and the expansion of the
pseudo-instructions (O9, O11, O16, O42). -/

namespace Sys2Proof.Machine

/-! ## The step of a pending transaction (30_encoding.md R80, R87, R88) -/

section
variable {s : State} {t : Transaction} {rest : List Input}

theorem step_of_decode {i : Instr} (hvalid : s.cfg.valid = true) (hphase : s.PHASE ≠ .uninitialized)
    (hin : s.inbox = .command t :: rest) (hdec : decode s.cfg t = .ok i) : step s = exec i (accept rest s) := by
  rw [step, fetch, if_pos hvalid, hin]
  simp only [if_neg hphase, hdec]

theorem step_of_decode_error {c : Cause} (hvalid : s.cfg.valid = true) (hphase : s.PHASE ≠ .uninitialized)
    (hin : s.inbox = .command t :: rest) (hdec : decode s.cfg t = .error c) :
    step s = .next (reject c (accept rest s)) := by
  rw [step, fetch, if_pos hvalid, hin]
  simp only [if_neg hphase, hdec]

/-- A step sees of a transaction only what it decodes to. -/
theorem step_congr_of_decode {u : Transaction} (h : decode s.cfg t = decode s.cfg u) :
    step { s with inbox := .command t :: rest } = step { s with inbox := .command u :: rest } := by
  simp only [step, fetch, h]
  rfl

/-- With the cursor in range every command completes. -/
theorem exists_exec_next (i : Instr) (hcursor : s.CURSOR < s.cfg.len) : ∃ u, exec i s = .next u := by
  cases i with
  | setSr r => rcases exec_setSr_cases r s with ⟨-, he⟩ | ⟨-, he⟩ <;> exact ⟨_, he⟩
  | get reg => rcases exec_get_cases reg s with ⟨_, -, he⟩ | ⟨-, he⟩ <;> exact ⟨_, he⟩
  | stepA | stepB | stepC => exact ⟨_, oneSample_of_cursor hcursor _ _ _ _ _⟩
  | nop | setDelay | setGain | setBright | clear => exact ⟨_, rfl⟩

theorem exists_step_next (hvalid : s.cfg.valid = true) (hphase : s.PHASE ≠ .uninitialized)
    (hcursor : s.CURSOR < s.cfg.len) (hin : s.inbox = .command t :: rest) : ∃ u, step s = .next u := by
  cases hdec : decode s.cfg t with
  | ok i =>
    rw [step_of_decode hvalid hphase hin hdec]
    exact exists_exec_next i hcursor
  | error c => exact ⟨_, step_of_decode_error hvalid hphase hin hdec⟩

end

/-- The response of a command (30_encoding.md R87): a rejection answers no data and sets ERR, any other command leaves
ERR and ECAUSE. -/
theorem CommandResult.answered {s u : State} {d : Except Cause Instr} (h : CommandResult s d u) :
    ∃ r, u.resp = some r ∧ (r.rerr = true → r.rdata = 0#64 ∧ u.ERR = true ∧ u.ECAUSE ≠ none) ∧
      (r.rerr = false → u.ERR = s.ERR ∧ u.ECAUSE = s.ECAUSE) := by
  cases h with
  | undecodable c => exact ⟨_, rfl, fun _ => ⟨rfl, rfl, nofun⟩, nofun⟩
  | badRate r hr => exact ⟨_, rfl, fun _ => ⟨rfl, rfl, nofun⟩, nofun⟩
  | badSelector reg hv => exact ⟨_, rfl, fun _ => ⟨rfl, rfl, nofun⟩, nofun⟩
  | _ => exact ⟨_, rfl, nofun, fun _ => ⟨rfl, rfl⟩⟩

end Sys2Proof.Machine

namespace Sys2Proof

open Sys2Proof.Machine

/-- Settles O11: `step_of_decode`, and `withFetchWord` puts its transaction before the pending inputs. -/
theorem stepRunsTheDecodedCommand : Obligations.StepRunsTheDecodedCommand :=
  ⟨fun _ _ _ _ hvalid hphase hin hdec => ⟨step_of_decode hvalid hphase hin hdec, rfl⟩,
    fun s nbits w _ hvalid hphase hdec => step_of_decode (s := s.withFetchWord nbits w) hvalid hphase rfl hdec⟩

/-- Settles O16: the step completes, and its response is that of the result of the command. -/
theorem everyCommandIsAnsweredOnce : Obligations.EveryCommandIsAnsweredOnce := by
  intro s t rest hvalid hphase hcursor hin
  obtain ⟨u, hu⟩ := exists_step_next hvalid hphase hcursor hin
  have hresult := step_command hin hu
  obtain ⟨r, hresp, hrejected, haccepted⟩ := hresult.answered
  exact ⟨u, r, hu, hresult.sameInputs.inbox, hresp, hrejected, haccepted⟩

/-! ## Lanes (30_encoding.md R82) -/

/-- The decoder reads the lanes of `readLanes` alone. -/
theorem decodeOp_readLanes (c : Config) (t : Transaction) :
    decodeOp c t = decodeOp c ⟨t.cmd, (readLanes t).1, (readLanes t).2.1, (readLanes t).2.2⟩ := by
  unfold decodeOp readLanes
  generalize (cmdOp t.cmd).toNat = k
  split <;> rfl

theorem decode_readLanes (c : Config) (t : Transaction) :
    decode c t = decode c ⟨t.cmd, (readLanes t).1, (readLanes t).2.1, (readLanes t).2.2⟩ := by
  rw [decode, decode, decodeOp_readLanes]

/-- Settles O9: a transaction decodes as the one that holds only the lanes it reads. -/
theorem ignoredLanesHaveNoEffect : Obligations.IgnoredLanesHaveNoEffect := by
  intro s t u rest hcmd hlanes
  apply step_congr_of_decode
  rw [decode_readLanes, hcmd, hlanes, ← decode_readLanes]

/-! ## Pseudo-instructions (30_encoding.md R90) -/

theorem takeExactly_of_le {n : Nat} {l : List F64} (h : n ≤ l.length) : takeExactly n l = some (l.take n) := if_pos h

theorem expandA_of_le {n : Nat} {e : List F64} (he : n ≤ e.length) :
    expandA n e = some ((e.take n).map .stepA) := by
  rw [expandA, takeExactly_of_le he]
  rfl

theorem expandB_of_le {n : Nat} {e d : List F64} (he : n ≤ e.length) (hd : n ≤ d.length) :
    expandB n e d = some (List.zipWith .stepB (e.take n) (d.take n)) := by
  rw [expandB, takeExactly_of_le he, takeExactly_of_le hd]
  rfl

theorem expandC_of_le {n : Nat} {e g d : List F64} (he : n ≤ e.length) (hg : n ≤ g.length) (hd : n ≤ d.length) :
    expandC n e g d =
      some (List.zipWith (fun eg x => .stepC eg.1 eg.2 x) ((e.take n).zip (g.take n)) (d.take n)) := by
  rw [expandC, takeExactly_of_le he, takeExactly_of_le hg, takeExactly_of_le hd]
  rfl

/-- Settles O42: the expansions as lists, whose elements are those of the arrays cut to the block length. -/
theorem pseudoInstructionsExpand : Obligations.PseudoInstructionsExpand := by
  refine ⟨fun n e he => ⟨_, expandA_of_le he, ?_, fun k x hk hx => ?_⟩,
    fun n e d he hd => ⟨_, expandB_of_le he hd, ?_, fun k x z hk hx hz => ?_⟩,
    fun n e g d he hg hd => ⟨_, expandC_of_le he hg hd, ?_, fun k x y z hk hx hy hz => ?_⟩,
    fun _ _ _ _ => ⟨rfl, rfl, rfl, rfl⟩, fun _ _ _ _ => rfl⟩
  · simp [he]
  · simp [hk, hx]
  · simp [he, hd]
  · simp [List.getElem?_zipWith, hk, hx, hz]
  · simp [he, hg, hd]
  · simp [List.getElem?_zipWith, List.zip, hk, hx, hy, hz]

end Sys2Proof

/-! SUPPORT. Proofs of the family 40_datapath: silence, the stability clamp and the weight examples (O39, O55, O56). -/

namespace Sys2Proof.F64

/-! ## Zeros under the operations -/

theorem isZero_add (ν : NanSeed) {a b : F64} (ha : isZero a = true) (hb : isZero b = true) :
    isZero (add ν a b) = true := by
  rw [add_of_sum_zero ν (isFinite_of_isZero ha) (isFinite_of_isZero hb)
    (by rw [value_of_isZero ha, value_of_isZero hb, add_zero])]
  exact isZero_zero _

theorem isZero_mul (ν : NanSeed) {a b : F64} (ha : isFinite a = true) (hb : isZero b = true) :
    isZero (mul ν a b) = true := by
  rw [(mul_eq_zero_or_not ν ha (isFinite_of_isZero hb)).1
    (by rw [value_of_isZero hb, mul_zero, abs_zero]; exact Int.natCast_nonneg _)]
  exact isZero_zero _

end Sys2Proof.F64

namespace Sys2Proof.Machine

open F64

/-! ## Silence (R115): every stage of the sample is a zero -/

theorem isZero_interpFrom (ν : NanSeed) {tap : Nat → F64} (htap : ∀ j, isZero (tap j) = true) (w : List F64)
    (hw : ∀ x ∈ w, isFinite x = true) {acc : F64} (hacc : isZero acc = true) (j : Nat) :
    isZero (interpFrom ν tap acc j w) = true := by
  induction w generalizing acc j with
  | nil => exact hacc
  | cons x xs ih =>
    obtain ⟨hx, hxs⟩ := List.forall_mem_cons.mp hw
    exact ih hxs (isZero_add _ hacc (isZero_mul _ hx (htap j))) (j + 1)

namespace Silent

variable {s : State} (hs : Silent s)
include hs

theorem isZero_readAt (o : Nat) : isZero (readAt s o) = true := hs.buf _

theorem isZero_interp (ν : NanSeed) (dt : Nat) {w : List F64} (hw : ∀ x ∈ w, isFinite x = true) :
    isZero (interp ν s dt w) = true := by
  cases w with
  | nil => exact isZero_zero false
  | cons x xs =>
    obtain ⟨hx, hxs⟩ := List.forall_mem_cons.mp hw
    exact isZero_interpFrom ν (fun _ => hs.isZero_readAt _) xs hxs (isZero_mul _ hx (hs.isZero_readAt _)) 1

theorem isZero_toneOut (ν : NanSeed) {x a0 a1 : F64} (hx : isZero x = true) (ha0 : isFinite a0 = true)
    (ha1 : isFinite a1 = true) : isZero (toneOut ν x a0 a1 s) = true :=
  isZero_add _ (isZero_add _ (isZero_mul _ ha0 hx) (isZero_mul _ ha1 hs.TX1)) (isZero_mul _ ha0 hs.TX2)

theorem isZero_dcOut (ν : NanSeed) {u : F64} (hu : isZero u = true) (hDA0 : isFinite s.DA0 = true)
    (hDA1 : isFinite s.DA1 = true) (hDB1 : isFinite s.DB1 = true) : isZero (dcOut ν u s) = true :=
  isZero_add _ (isZero_add _ (isZero_mul _ hDA0 hu) (isZero_mul _ hDA1 hs.DU1)) (isZero_mul _ hDB1 hs.DY1)

/-- A sample of zeros keeps the silence: the buffer gains the zero `y`, the histories `x`, `u` and `y`. -/
theorem storeSample (hwf : s.BUF.wf) {v : Sample} (hx : isZero v.x = true) (hu : isZero v.u = true)
    (hy : isZero v.y = true) : Silent (storeSample v s) where
  buf i := by
    rw [storeSample_BUF, Memory.read_write _ _ _ _ hwf.1]
    split
    · exact hy
    · exact hs.buf i
  TX1 := hx
  TX2 := hs.TX1
  DU1 := hu
  DY1 := hy

/-- The response port is no audio state. -/
theorem respond (err : Bool) (d : F64) : Silent (respond err d s) := { hs with }

end Silent

end Sys2Proof.Machine

namespace Sys2Proof

open F64 Sys2Proof.Machine

/-- Settles O39: the interpolated read, the sum and the output are zeros in turn, and storing them keeps the silence. -/
theorem silenceIsPreserved : Obligations.SilenceIsPreserved := by
  intro s ν e w dt a hcursor hwf hs he hw ha0 ha1 hDA0 hDA1 hDB1
  have hx := hs.isZero_interp (ν.site 0) dt hw
  have hu := isZero_add (ν.site 2) (hs.isZero_toneOut (ν.site 1) hx ha0 ha1) he
  have hy := hs.isZero_dcOut (ν.site 3) hu hDA0 hDA1 hDB1
  exact ⟨_, _, oneSample_of_cursor hcursor ν e w dt a, respond_resp _ _ _, hy,
    (hs.storeSample hwf hx hu hy).respond _ _⟩

/-! ## The stability clamp (R108) -/

theorem clampTone_of_lt {a0 : F64} (h : lt a0 pzero = true) (a1 g : F64) : clampTone a0 a1 g = (pzero, g) := if_pos h

theorem clampTone_of_not_lt {a0 : F64} (h : lt a0 pzero = false) (a1 g : F64) : clampTone a0 a1 g = (a0, a1) := by
  rw [clampTone, h, if_neg Bool.false_ne_true]

theorem clampTone_not_lt_zero (a0 a1 g : F64) : lt (clampTone a0 a1 g).1 pzero = false := by
  cases h : lt a0 pzero with
  | true =>
    rw [clampTone_of_lt h]
    exact (by decide : lt pzero pzero = false)
  | false => rwa [clampTone_of_not_lt h]

/-- Settles O55: `-0.0` is a case of the second clause, and the tone coefficients are the clamp's answer (R107). -/
theorem stabilityClamp : Obligations.StabilityClamp :=
  ⟨fun _ a1 g h => clampTone_of_lt h a1 g, fun _ a1 g h => clampTone_of_not_lt h a1 g,
    clampTone_of_not_lt (by decide), fun _ _ _ _ => clampTone_not_lt_zero _ _ _⟩

/-- Settles O56: the rules' examples are fixed values, and the kernel computes them. -/
theorem weightExamples : Obligations.WeightExamples := by
  unfold Obligations.WeightExamples
  decide +kernel

end Sys2Proof

/-! SUPPORT. Proofs of the family 41_processing, part 1: the three STEP commands are one sample (O33 to O35). -/

namespace Sys2Proof.Machine

/-! ## The stages of the sample (40_datapath.md R105, R111, R113) -/

section
variable (ν : NanSeed) (s : State)

theorem tapSum_interpFrom (dt j : Nat) (acc : F64) (w : List F64) :
    TapSum s dt j acc w (interpFrom ν (fun k => readAt s (dt + k)) acc j w) := by
  induction w generalizing j acc with
  | nil => exact rfl
  | cons x xs ih => exact ⟨_, _, ⟨_, rfl⟩, ⟨_, rfl⟩, ih _ _⟩

theorem isInterp_interp (dt : Nat) (w : List F64) : IsInterp s dt w (interp ν s dt w) := by
  cases w with
  | nil => exact rfl
  | cons x xs => exact ⟨_, ⟨_, rfl⟩, tapSum_interpFrom ν s dt 1 _ xs⟩

theorem isFir_toneOut (x a0 a1 : F64) : IsFir a0 x a1 s.TX1 a0 s.TX2 (toneOut ν x a0 a1 s) :=
  ⟨_, _, _, _, ⟨_, rfl⟩, ⟨_, rfl⟩, ⟨_, rfl⟩, ⟨_, rfl⟩, ⟨_, rfl⟩⟩

theorem isFir_dcOut (u : F64) : IsFir s.DA0 u s.DA1 s.DU1 s.DB1 s.DY1 (dcOut ν u s) :=
  ⟨_, _, _, _, ⟨_, rfl⟩, ⟨_, rfl⟩, ⟨_, rfl⟩, ⟨_, rfl⟩, ⟨_, rfl⟩⟩

end

/-! ## The whole sample (R114) -/

section
variable {s : State} (hwf : s.BUF.wf)
include hwf

theorem stepFrame_storeSample (v : Sample) : StepFrame s (respond false v.y (storeSample v s)) where
  setup := ⟨⟨rfl, rfl, rfl⟩, rfl, rfl, ⟨rfl, rfl⟩, ⟨rfl, rfl, rfl, rfl⟩, ⟨rfl, rfl⟩⟩
  ERR := rfl
  ECAUSE := rfl
  inputs := ⟨rfl, rfl⟩
  buf _ hi := (Memory.read_write _ _ _ _ hwf.1).trans (if_neg hi.symm)

/-- The function `oneSample` answers what the relation `OneSample` asks for. -/
theorem exists_oneSample (hcursor : s.CURSOR < s.cfg.len) (ν : NanSeed) (e : F64) (w : List F64) (dt : Nat)
    (a : F64 × F64) : ∃ t y, oneSample ν e w dt a s = .next t ∧ OneSample s t e w dt a y :=
  ⟨_, _, oneSample_of_cursor hcursor ν e w dt a,
    { values := ⟨_, isInterp_interp _ s dt w, isFir_toneOut _ s _ _ _, ⟨_, rfl⟩, isFir_dcOut _ s _⟩
      TX2 := rfl
      DY1 := rfl
      written := (Memory.read_write _ _ _ _ hwf.1).trans (if_pos rfl)
      emitted := rfl
      CURSOR := rfl
      PHASE := rfl
      frame := stepFrame_storeSample hwf _ }⟩

end

end Sys2Proof.Machine

namespace Sys2Proof

open Sys2Proof.Machine

/-- Settles O33: the sample of `exec_stepA`. -/
theorem stepAIsOneSample : Obligations.StepAIsOneSample :=
  fun _ e hcursor hwf => exists_oneSample hwf hcursor _ e _ _ _

/-- Settles O34: the sample of `exec_stepB`, with what `modDelay`, `modSplit`, `modWeights` and `modTone` compute. -/
theorem stepBIsOneSample : Obligations.StepBIsOneSample := by
  intro s e d hcursor hwf
  obtain ⟨t, y, hexec, hsample⟩ := exists_oneSample hwf hcursor (s.seed.site 0) e (modWeights d s) (modSplit d s).dt
    (modTone s.G d s)
  exact ⟨t, y, modDelay d s, modSplit d s, _, _, (exec_stepB e d s).trans hexec, ⟨_, rfl⟩, ⟨_, rfl⟩, ⟨_, rfl⟩,
    ⟨_, rfl⟩, hsample⟩

/-- Settles O35: the sample of `exec_stepC`, which is that of STEP_B with `gainArg` of the operand for G. -/
theorem stepCIsOneSample : Obligations.StepCIsOneSample := by
  intro s e g d hcursor hwf
  obtain ⟨t, y, hexec, hsample⟩ := exists_oneSample hwf hcursor (s.seed.site 0) e (modWeights d s) (modSplit d s).dt
    (modTone (gainArg s.cfg g) d s)
  exact ⟨t, y, gainArg s.cfg g, modDelay d s, modSplit d s, _, _, (exec_stepC e g d s).trans hexec, rfl, ⟨_, rfl⟩,
    ⟨_, rfl⟩, ⟨_, rfl⟩, ⟨_, rfl⟩, hsample⟩

end Sys2Proof

/-! SUPPORT. Proofs of the family 41_processing, part 2: commands one after another, and a block as its STEP commands
(O41). -/

namespace Sys2Proof.Machine

/-! ## Commands one after another (20_memory.md R70) -/

/-- The meaning of the first command, then the others on the state it leaves. -/
theorem runCommands_cons {s t u : State} {i : Instr} {is : List Instr} {r : Response} {rs : List Response}
    (hs : s.Inv) (hi : i.wellFormed s.cfg = true) (hexec : exec i (accept s.inbox s) = .next t)
    (hresp : t.resp = some r) (hrest : runCommands is t = some (rs, u)) :
    runCommands (i :: is) s = some (r :: rs, u) := by
  have hstep : step (offer i s) = .next t :=
    (step_of_encode (s := offer i s) hs.cfgValid hs.started hi rfl).trans hexec
  simp only [runCommands, hstep, hresp, hrest]

/-! ## Setup frames one after another -/

section
variable {s t u : State}

theorem SameDelay.trans (h : SameDelay s t) (h' : SameDelay t u) : SameDelay s u :=
  ⟨h'.S.trans h.S, h'.DT_S.trans h.DT_S, h'.LC_S.trans h.LC_S⟩

theorem SameTone.trans (h : SameTone s t) (h' : SameTone t u) : SameTone s u :=
  ⟨h'.TA0.trans h.TA0, h'.TA1.trans h.TA1⟩

theorem SameRate.trans (h : SameRate s t) (h' : SameRate t u) : SameRate s u :=
  ⟨h'.SR.trans h.SR, h'.DA0.trans h.DA0, h'.DA1.trans h.DA1, h'.DB1.trans h.DB1⟩

theorem SameFixed.trans (h : SameFixed s t) (h' : SameFixed t u) : SameFixed s u :=
  ⟨h'.cfg.trans h.cfg, h'.CC.trans h.CC⟩

theorem SameSetup.trans (h : SameSetup s t) (h' : SameSetup t u) : SameSetup s u :=
  ⟨h.delay.trans h'.delay, h'.G.trans h.G, h'.B.trans h.B, h.tone.trans h'.tone, h.rate.trans h'.rate,
    h.fixed.trans h'.fixed⟩

end

theorem sameSetup_refl (s : State) : SameSetup s s :=
  ⟨⟨rfl, rfl, rfl⟩, rfl, rfl, ⟨rfl, rfl⟩, ⟨rfl, rfl, rfl, rfl⟩, ⟨rfl, rfl⟩⟩

theorem sameSetup_accept (rest : List Input) (s : State) : SameSetup s (accept rest s) :=
  ⟨⟨rfl, rfl, rfl⟩, rfl, rfl, ⟨rfl, rfl⟩, ⟨rfl, rfl, rfl, rfl⟩, ⟨rfl, rfl⟩⟩

/-! ## A run of STEP commands (41_processing.md R144) -/

theorem wellFormed_of_isStep {i : Instr} (h : isStep i = true) (c : Config) : i.wellFormed c = true := by
  cases i with
  | get reg => exact nomatch h
  | _ => rfl

/-- Every STEP of a run is accepted, moves the cursor by one and keeps the invariant, the setup and the inputs. -/
theorem exists_runCommands_of_isStep (is : List Instr) {s : State} (hs : s.Inv) (his : is.all isStep = true) :
    ∃ rs t, runCommands is s = some (rs, t) ∧ (∀ r ∈ rs, r.rerr = false) ∧ rs.length = is.length ∧
      t.CURSOR = (s.CURSOR + is.length) % s.cfg.len ∧ SameSetup s t ∧ t.inbox = s.inbox := by
  induction is generalizing s with
  | nil => exact ⟨[], s, rfl, nofun, rfl, (Nat.mod_eq_of_lt hs.cursorRange).symm, sameSetup_refl s, rfl⟩
  | cons i is ih =>
    obtain ⟨hi, his⟩ := Bool.and_eq_true_iff.mp his
    have ha : (accept s.inbox s).Inv := hs.accept s.inbox
    obtain ⟨v, hexec⟩ := exec_of_isStep hi ha.cursorRange
    have hframe : SameSetup s (respond false v.y (storeSample v (accept s.inbox s))) :=
      (sameSetup_accept s.inbox s).trans (stepFrame_storeSample ha.bufWf v).setup
    obtain ⟨rs, t, hrun, haccepted, hlength, hcursor, hsetup, hinbox⟩ := ih ((ha.storeSample v).respond v.y) his
    refine ⟨⟨false, v.y⟩ :: rs, t, runCommands_cons hs (wellFormed_of_isStep hi _) hexec rfl hrun,
      List.forall_mem_cons.mpr ⟨rfl, haccepted⟩, congrArg Nat.succ hlength, ?_, hframe.trans hsetup, hinbox⟩
    rw [hcursor, respond_CURSOR, storeSample_CURSOR, respond_cfg, storeSample_cfg, accept_CURSOR, accept_cfg,
      Nat.mod_add_mod, List.length_cons, Nat.add_assoc, Nat.add_comm 1]

/-! ## What PROCESS expands to (30_encoding.md R90) -/

theorem length_of_takeExactly {n : Nat} {l m : List F64} (h : takeExactly n l = some m) : m.length = n := by
  obtain ⟨hle, rfl⟩ := Option.ite_some_none_eq_some.mp h
  exact List.length_take_of_le hle

theorem all_zipWith {α β γ : Type} {f : α → β → γ} {p : γ → Bool} (h : ∀ a b, p (f a b) = true) (l : List α)
    (m : List β) : (List.zipWith f l m).all p = true := by
  rw [← List.map_uncurry_zip_eq_zipWith, List.all_map, List.all_eq_true]
  exact fun x _ => h x.1 x.2

section
variable {n : Nat} {e g d : List F64} {is : List Instr}

theorem steps_of_expandA (h : expandA n e = some is) : is.length = n ∧ is.all isStep = true := by
  obtain ⟨es, he, his⟩ := Option.bind_eq_some_iff.mp h
  obtain rfl := Option.some.inj his
  exact ⟨(List.length_map _).trans (length_of_takeExactly he), by simp [isStep]⟩

theorem steps_of_expandB (h : expandB n e d = some is) : is.length = n ∧ is.all isStep = true := by
  obtain ⟨es, he, h⟩ := Option.bind_eq_some_iff.mp h
  obtain ⟨ds, hd, his⟩ := Option.bind_eq_some_iff.mp h
  obtain rfl := Option.some.inj his
  refine ⟨?_, all_zipWith (fun _ _ => rfl) _ _⟩
  rw [List.length_zipWith, length_of_takeExactly he, length_of_takeExactly hd, Nat.min_self]

theorem steps_of_expandC (h : expandC n e g d = some is) : is.length = n ∧ is.all isStep = true := by
  obtain ⟨es, he, h⟩ := Option.bind_eq_some_iff.mp h
  obtain ⟨gs, hg, h⟩ := Option.bind_eq_some_iff.mp h
  obtain ⟨ds, hd, his⟩ := Option.bind_eq_some_iff.mp h
  obtain rfl := Option.some.inj his
  refine ⟨?_, all_zipWith (fun _ _ => rfl) _ _⟩
  rw [List.length_zipWith, List.length_zip, length_of_takeExactly he, length_of_takeExactly hg,
    length_of_takeExactly hd, Nat.min_self, Nat.min_self]

end

theorem steps_of_expand_process {n : Nat} {e : List F64} {g d : Option (List F64)} {is : List Instr}
    (h : (Pseudo.process n e g d).expand = some is) : is.length = n ∧ is.all isStep = true := by
  cases g with
  | none =>
    cases d with
    | none => exact steps_of_expandA h
    | some d => exact steps_of_expandB h
  | some g =>
    cases d with
    | none => exact nomatch h
    | some d => exact steps_of_expandC h

end Sys2Proof.Machine

namespace Sys2Proof

open Sys2Proof.Machine

/-- Settles O41: a block expands to STEP commands, one per sample, and `exists_runCommands_of_isStep` runs them. -/
theorem blockIsItsSteps : Obligations.BlockIsItsSteps := by
  intro s n e g d is hs hexpand
  obtain ⟨hlength, hsteps⟩ := steps_of_expand_process hexpand
  obtain ⟨rs, t, hrun, haccepted, hrs, hcursor, hsetup, hinbox⟩ := exists_runCommands_of_isStep is hs hsteps
  rw [hlength] at hrs hcursor
  refine ⟨rs, _, t, hrun, ?_, rfl, haccepted, by rw [List.length_map, hrs], hcursor, hsetup, hinbox, hsteps⟩
  rw [processBlock, hexpand, Option.bind_eq_bind, Option.bind_some, hrun]
  rfl

end Sys2Proof

/-! SUPPORT. Proofs of the family 41_processing, part 3: what the free bits of a NaN reach, and Mode C against Mode A
(O40). -/

namespace Sys2Proof.F64

/-! ## Equality up to the open bits of a NaN (00_scope.md R9) -/

theorem same_symm {a b : F64} (h : same a b = true) : same b a = true := by
  rcases same_iff.mp h with rfl | ⟨ha, hb⟩
  · exact same_refl _
  · exact same_iff.mpr (.inr ⟨hb, ha⟩)

theorem same_trans {a b c : F64} (h : same a b = true) (h' : same b c = true) : same a c = true := by
  rcases same_iff.mp h with rfl | ⟨ha, hb⟩
  · exact h'
  · exact same_iff.mpr (.inr ⟨ha, (same_isNaN h').symm.trans hb⟩)

theorem eq_of_same {a b : F64} (h : same a b = true) (ha : isNaN a = false) : a = b :=
  (same_iff.mp h).resolve_right fun hnan => Bool.false_ne_true (ha.symm.trans hnan.1)

theorem lt_congr_of_same {a a' : F64} (h : same a a' = true) (b : F64) : lt a b = lt a' b := by
  rcases same_iff.mp h with rfl | ⟨ha, ha'⟩
  · rfl
  · simp [lt, ha, ha']

/-! ## Operations that give no NaN -/

theorem isNaN_add_of_isFinite_right (ν : NanSeed) {a b : F64} (ha : isNaN a = false) (hb : isFinite b = true) :
    isNaN (add ν a b) = false := by
  cases hinf : isInf a with
  | true => rw [eq_inf_of_isInf hinf, add_inf_left ν _ hb, isNaN_inf]
  | false =>
    have hfin : isFinite a = true := isFinite_iff.mpr ⟨ha, hinf⟩
    by_cases hsum : value a + value b = 0
    · rw [add_of_sum_zero ν hfin hb hsum, isNaN_zero]
    · rw [add_of_sum_ne_zero ν hfin hb hsum, isNaN_ofRatio]

theorem isNaN_div_of_isFinite_left (ν : NanSeed) {a b : F64} (ha : isFinite a = true) (hz : isZero a = false)
    (hb : isNaN b = false) : isNaN (div ν a b) = false := by
  cases hinf : isInf b with
  | true => rw [eq_inf_of_isInf hinf, div_inf_right ν _ ha, isNaN_zero]
  | false =>
    have hfin : isFinite b = true := isFinite_iff.mpr ⟨hb, hinf⟩
    cases hzero : isZero b with
    | true => rw [div_zero_right ν ha hz hzero, isNaN_inf]
    | false => rw [div_of_isFinite ν ha hfin hzero, isNaN_ofRatio]

end Sys2Proof.F64

namespace Sys2Proof

open F64

/-! ## What the seeds of the roundings change of the coefficients -/

theorem isNaN_delayArg {c : Config} (hc : c.valid = true) (ν : NanSeed) (v : F64) : isNaN (delayArg ν c v) = false :=
  (le_iff.mp (delayArg_between hc ν v).1).2.1

/-- The stored form of a delay argument is a number, so it does not depend on the free bits. -/
theorem delayArg_eq_of_valid {c : Config} (hc : c.valid = true) (ν μ : NanSeed) (v : F64) :
    delayArg ν c v = delayArg μ c v :=
  eq_of_same (sub_same ν μ (same_refl _) (same_refl _)) (isNaN_delayArg hc ν v)

theorem split_p_same (ν μ : NanSeed) (c : Config) (s : F64) : same (split ν c s).p (split μ c s).p = true :=
  add_same _ _ (sub_same _ _ (same_refl _) (same_refl _)) (same_refl _)

section
variable (ν μ : NanSeed) (n : Nat) {p q : F64} (hp : same p q = true)
include hp

theorem staticWeight_same (j : Nat) : same (staticWeight ν n p j) (staticWeight μ n q j) = true :=
  List.foldl_rel (r := fun a b => same a b = true) (same_refl _) fun _ _ _ _ hw =>
    mul_same _ _ hw (div_same _ _ (sub_same _ _ hp (same_refl _)) (same_refl _))

theorem dynamicWeight_same (ξ η : NanSeed) (ccj : F64) (j : Nat) :
    same (dynamicWeight ν ξ n p ccj j) (dynamicWeight μ η n q ccj j) = true :=
  List.foldl_rel (r := fun a b => same a b = true) (same_refl _) fun _ _ _ _ hw =>
    mul_same _ _ hw (sub_same _ _ hp (same_refl _))

end

namespace Machine

theorem sameList_map {f g : Nat → F64} (h : ∀ j, same (f j) (g j) = true) (l : List Nat) :
    sameList (l.map f) (l.map g) :=
  List.forall₂_map_left_iff.mpr (List.forall₂_map_right_iff.mpr (List.forall₂_same.mpr fun j _ => h j))

theorem sameList_trans {a b c : List F64} (h : sameList a b) (h' : sameList b c) : sameList a c := by
  induction h generalizing c with
  | nil => exact h'
  | cons hx _ ih =>
    cases h' with
    | cons hy h' => exact .cons (same_trans hx hy) (ih h')

theorem sameList_staticWeights (ν μ : NanSeed) (n : Nat) {p q : F64} (hp : same p q = true) :
    sameList (staticWeights ν n p) (staticWeights μ n q) :=
  sameList_map (fun j => staticWeight_same _ _ n hp j) _

theorem sameList_dynamicWeights (ν μ : NanSeed) (n : Nat) (cc : List F64) {p q : F64} (hp : same p q = true) :
    sameList (dynamicWeights ν n cc p) (dynamicWeights μ n cc q) :=
  sameList_map (fun j => dynamicWeight_same _ _ n hp _ _ _ j) _

end Machine

/-- The argument of the cosine is a number for every delay that is one. -/
theorem omega0_eq_of_not_isNaN (ν μ : NanSeed) {s : F64} (hs : isNaN s = false) : omega0 ν s = omega0 μ s :=
  eq_of_same (div_same _ _ (same_refl _) (add_same _ _ (same_refl _) (same_refl _)))
    (isNaN_div_of_isFinite_left _ (by decide) (by decide) (isNaN_add_of_isFinite_right _ hs (by decide)))

theorem toneRaw_same (ν μ : NanSeed) (c g b : F64) :
    same (toneRaw ν c g b).1 (toneRaw μ c g b).1 = true ∧ same (toneRaw ν c g b).2 (toneRaw μ c g b).2 = true := by
  have hbg := mul_same (ν.site 0) (μ.site 0) (same_refl b) (same_refl g)
  have ha1 : same (toneRaw ν c g b).2 (toneRaw μ c g b).2 = true :=
    div_same _ _ (add_same _ _ (same_refl g) (mul_same _ _ hbg (same_refl c)))
      (add_same _ _ (same_refl _) (same_refl c))
  exact ⟨div_same _ _ (sub_same _ _ ha1 hbg) (same_refl _), ha1⟩

theorem clampTone_same {a0 a0' a1 a1' : F64} (h0 : same a0 a0' = true) (h1 : same a1 a1' = true) (g : F64) :
    same (clampTone a0 a1 g).1 (clampTone a0' a1' g).1 = true ∧
      same (clampTone a0 a1 g).2 (clampTone a0' a1' g).2 = true := by
  rw [clampTone, clampTone, lt_congr_of_same h0]
  split
  · exact ⟨same_refl _, same_refl _⟩
  · exact ⟨h0, h1⟩

theorem toneCoef_same (ν μ : NanSeed) (g b : F64) {s : F64} (hs : isNaN s = false) :
    same (toneCoef ν g b s).1 (toneCoef μ g b s).1 = true ∧
      same (toneCoef ν g b s).2 (toneCoef μ g b s).2 = true := by
  rw [toneCoef, toneCoef, omega0_eq_of_not_isNaN (ν.site 0) (μ.site 0) hs]
  obtain ⟨h0, h1⟩ := toneRaw_same (ν.site 1) (μ.site 1) (Config.cos (omega0 (μ.site 0) s)) g b
  exact clampTone_same h0 h1 g

end Sys2Proof

namespace Sys2Proof.Machine

open F64

/-! ## One sample twice

The sample is a relation (`OneSample`) because the bits of a NaN are open; from the same audio state, and from weights
and coefficients that are equal up to these bits, all that it relates is equal up to them. -/

theorem IsSum.same {a b r a' b' r' : F64} (h : IsSum a b r) (h' : IsSum a' b' r') (ha : same a a' = true)
    (hb : same b b' = true) : F64.same r r' = true := by
  obtain ⟨ν, rfl⟩ := h
  obtain ⟨μ, rfl⟩ := h'
  exact add_same ν μ ha hb

theorem IsProduct.same {a b r a' b' r' : F64} (h : IsProduct a b r) (h' : IsProduct a' b' r')
    (ha : same a a' = true) (hb : same b b' = true) : F64.same r r' = true := by
  obtain ⟨ν, rfl⟩ := h
  obtain ⟨μ, rfl⟩ := h'
  exact mul_same ν μ ha hb

theorem IsFir.same {c0 x0 c1 x1 c2 x2 r c0' x0' c1' x1' c2' x2' r' : F64} (h : IsFir c0 x0 c1 x1 c2 x2 r)
    (h' : IsFir c0' x0' c1' x1' c2' x2' r') (hc0 : same c0 c0' = true) (hx0 : same x0 x0' = true)
    (hc1 : same c1 c1' = true) (hx1 : same x1 x1' = true) (hc2 : same c2 c2' = true) (hx2 : same x2 x2' = true) :
    F64.same r r' = true := by
  obtain ⟨p0, p1, p2, q, hp0, hp1, hq, hp2, hr⟩ := h
  obtain ⟨p0', p1', p2', q', hp0', hp1', hq', hp2', hr'⟩ := h'
  exact hr.same hr' (hq.same hq' (hp0.same hp0' hc0 hx0) (hp1.same hp1' hc1 hx1)) (hp2.same hp2' hc2 hx2)

section
variable {s s' : State} {dt : Nat} {w w' : List F64}

theorem tapSum_same (hread : ∀ o, readAt s o = readAt s' o) (hw : sameList w w') {j : Nat} {acc acc' x x' : F64}
    (h : TapSum s dt j acc w x) (h' : TapSum s' dt j acc' w' x') (hacc : same acc acc' = true) :
    same x x' = true := by
  induction hw generalizing j acc acc' with
  | nil =>
    obtain rfl : x = acc := h
    obtain rfl : x' = acc' := h'
    exact hacc
  | cons hv _ ih =>
    obtain ⟨p, q, hp, hq, hrest⟩ := h
    obtain ⟨p', q', hp', hq', hrest'⟩ := h'
    have htap : same (readAt s (dt + j)) (readAt s' (dt + j)) = true := hread (dt + j) ▸ same_refl _
    exact ih hrest hrest' (hq.same hq' hacc (hp.same hp' hv htap))

theorem isInterp_same (hread : ∀ o, readAt s o = readAt s' o) (hw : sameList w w') {x x' : F64}
    (h : IsInterp s dt w x) (h' : IsInterp s' dt w' x') : same x x' = true := by
  cases hw with
  | nil =>
    obtain rfl : x = pzero := h
    obtain rfl : x' = pzero := h'
    exact same_refl _
  | cons hv hw =>
    obtain ⟨p, hp, hrest⟩ := h
    obtain ⟨p', hp', hrest'⟩ := h'
    have htap : same (readAt s (dt + 0)) (readAt s' (dt + 0)) = true := hread (dt + 0) ▸ same_refl _
    exact tapSum_same hread hw hrest hrest' (hp.same hp' hv htap)

theorem readAt_eq_of_sameAudio (hcfg : s'.cfg = s.cfg) (h : SameAudio s s') (o : Nat) : readAt s o = readAt s' o := by
  rw [readAt, readAt, hcfg, h.history.CURSOR, h.buf]

theorem OneSample.same {t t' : State} {dt' : Nat} {e y y' : F64} {a a' : F64 × F64} (h : OneSample s t e w dt a y)
    (h' : OneSample s' t' e w' dt' a' y') (hcfg : s'.cfg = s.cfg) (haudio : SameAudio s s') (hrate : SameRate s s')
    (hdt : dt = dt') (hw : sameList w w') (ha : same a.1 a'.1 = true ∧ same a.2 a'.2 = true) :
    F64.same y y' = true ∧ t.CURSOR = t'.CURSOR ∧ F64.same t.TX1 t'.TX1 = true ∧ t.TX2 = t'.TX2 ∧
      F64.same t.DU1 t'.DU1 = true ∧ F64.same t.DY1 t'.DY1 = true ∧
      ∀ k, F64.same (t.BUF.read k) (t'.BUF.read k) = true := by
  subst hdt
  obtain ⟨f, hx, hf, hu, hy⟩ := h.values
  obtain ⟨f', hx', hf', hu', hy'⟩ := h'.values
  obtain ⟨ha0, ha1⟩ := ha
  obtain ⟨hCURSOR, hTX1, hTX2, hDU1, hDY1⟩ := haudio.history
  rw [hTX1, hTX2] at hf'
  rw [hrate.DA0, hrate.DA1, hrate.DB1, hDU1, hDY1] at hy'
  have hxx := isInterp_same (readAt_eq_of_sameAudio hcfg haudio) hw hx hx'
  have hff := hf.same hf' ha0 hxx ha1 (same_refl _) ha0 (same_refl _)
  have huu := hu.same hu' hff (same_refl e)
  have hyy := hy.same hy' (same_refl _) huu (same_refl _) (same_refl _) (same_refl _) (same_refl _)
  refine ⟨hyy, ?_, hxx, ?_, huu, ?_, fun k => ?_⟩
  · rw [h.CURSOR, h'.CURSOR, hCURSOR, hcfg]
  · rw [h.TX2, h'.TX2, hTX1]
  · rwa [h.DY1, h'.DY1]
  · by_cases hk : k = s.CURSOR
    · rwa [hk, h.written, ← hCURSOR, h'.written]
    · rw [h.frame.buf k hk, h'.frame.buf k (hCURSOR ▸ hk), haudio.buf]
      exact same_refl _

end

/-! ## The caches of the parameters

The invariant says that each cache is computed from the parameters with some roundings; with any other roundings it
would be the same up to the bits of a NaN. -/

section
variable {s : State} (hs : s.Inv)
include hs

theorem State.Inv.DT_S_eq (ν : NanSeed) : s.DT_S = (split ν s.cfg s.S).dt := by
  obtain ⟨μ, -, hdt, -⟩ := hs.delayCache
  exact hdt

theorem State.Inv.LC_S_same (ν μ : NanSeed) :
    sameList s.LC_S (staticWeights ν s.cfg.n (split μ s.cfg s.S).p) := by
  obtain ⟨ξ, η, -, hw⟩ := hs.delayCache
  rw [hw]
  exact sameList_staticWeights η ν s.cfg.n (split_p_same ξ μ s.cfg s.S)

theorem State.Inv.tone_same (ν : NanSeed) :
    same s.TA0 (toneCoef ν s.G s.B s.S).1 = true ∧ same s.TA1 (toneCoef ν s.G s.B s.S).2 = true := by
  obtain ⟨μ, htone⟩ := hs.toneCache
  obtain ⟨h0, h1⟩ := Prod.mk.inj htone
  rw [h0, h1]
  exact toneCoef_same μ ν s.G s.B (le_iff.mp hs.delayLow).2.1

end

/-! ## The setters before a STEP (42_control.md R161, R162)

Facts about the prepared state are rewritten with the field lemmas, since unifying it with the state before compares
every cache. -/

/-- The state that SET_GAIN leaves. -/
def gainSet (g : F64) (s : State) : State :=
  respond false 0#64 (retune (s.seed.site 4) (storeGain (gainArg s.cfg g) s))

/-- The state that SET_DELAY leaves: what it stores is what a STEP_B would compute, but for the weights. -/
def delaySet (d : F64) (s : State) : State :=
  respond false 0#64 (retune (s.seed.site 4) (storeDelay (modDelay d s) (modSplit d s).dt
    (staticWeights (s.seed.site 3) s.cfg.n (modSplit d s).p) s))

theorem exec_setGain (g : F64) (s : State) : exec (.setGain g) s = .next (gainSet g s) := rfl

theorem exec_setDelay (d : F64) (s : State) : exec (.setDelay d) s = .next (delaySet d s) := rfl

/-- The state that SET_GAIN `g` and then SET_DELAY `d` leave for a STEP_A. -/
def prepared (g d : F64) (s : State) : State := delaySet d (accept s.inbox (gainSet g (accept s.inbox s)))

section
variable (g d : F64) (s : State)

@[simp] theorem prepared_cfg : (prepared g d s).cfg = s.cfg := by simp [prepared, delaySet, gainSet]

@[simp] theorem prepared_G : (prepared g d s).G = gainArg s.cfg g := by simp [prepared, delaySet, gainSet]

@[simp] theorem prepared_B : (prepared g d s).B = s.B := by simp [prepared, delaySet, gainSet]

theorem sameAudio_prepared (r r' : List Input) : SameAudio (accept r (prepared g d s)) (accept r' s) :=
  ⟨by simp [prepared, delaySet, gainSet], by constructor <;> simp [prepared, delaySet, gainSet]⟩

theorem sameRate_prepared (r r' : List Input) : SameRate (accept r (prepared g d s)) (accept r' s) := by
  constructor <;> simp [prepared, delaySet, gainSet]

end

section
variable {s : State} (hs : s.Inv) (g d : F64)
include hs

theorem gainSet_inv : (gainSet g (accept s.inbox s)).Inv :=
  (commandResult_of_exec (exec_setGain g _)).inv (hs.accept _)

theorem prepared_inv : (prepared g d s).Inv :=
  (commandResult_of_exec (exec_setDelay d _)).inv ((gainSet_inv hs g).accept _)

/-- Both setters are accepted, and the commands after them run on the state they prepare. -/
theorem runCommands_setGain_setDelay {is : List Instr} {rs : List Response} {u : State}
    (h : runCommands is (prepared g d s) = some (rs, u)) :
    runCommands (.setGain g :: .setDelay d :: is) s = some (⟨false, 0#64⟩ :: ⟨false, 0#64⟩ :: rs, u) :=
  runCommands_cons hs rfl (exec_setGain g _) rfl
    (runCommands_cons (gainSet_inv hs g) rfl (exec_setDelay d _) rfl h)

theorem prepared_S (ν : NanSeed) : (prepared g d s).S = delayArg ν s.cfg d :=
  delayArg_eq_of_valid hs.cfgValid _ ν d

end

end Sys2Proof.Machine

namespace Sys2Proof

open F64 Sys2Proof.Machine

/-- Settles O40: the two modes read the same taps, with weights and coefficients that are equal up to the bits of a NaN,
so `OneSample.same` holds of their samples. -/
theorem modesAgreeWhereWeightsAgree : Obligations.ModesAgreeWhereWeightsAgree := by
  rintro s e g d hs ⟨ν₁, ν₂, ν₃, ν₄, hagree⟩
  have ha := hs.accept s.inbox
  have hp := prepared_inv hs g d
  have hpa := hp.accept (prepared g d s).inbox
  obtain ⟨t, ya, hexecA, hA⟩ := stepAIsOneSample _ e hpa.cursorRange hpa.bufWf
  obtain ⟨u, yc, _, sd, _, _, _, hexecC, rfl, ⟨μ₁, hsd⟩, ⟨μ₂, rfl⟩, ⟨μ₃, rfl⟩, ⟨μ₄, rfl⟩, hC⟩ :=
    stepCIsOneSample _ e g d ha.cursorRange ha.bufWf
  have hS : (prepared g d s).S = sd := (prepared_S hs g d μ₁).trans hsd.symm
  have hdt := hp.DT_S_eq μ₂
  have hLC := hp.LC_S_same ν₁ ν₂
  have htone := hp.tone_same μ₄
  simp only [hS, prepared_cfg, prepared_G, prepared_B] at hdt hLC htone
  have hweights : sameList (prepared g d s).LC_S (dynamicWeights μ₃ s.cfg.n s.CC (split μ₂ s.cfg sd).p) := by
    rw [← prepared_S hs g d ν₃, hS] at hagree
    exact sameList_trans (sameList_trans hLC hagree)
      (sameList_dynamicWeights ν₄ μ₃ s.cfg.n s.CC (split_p_same ν₂ μ₂ s.cfg sd))
  simp only [accept_DT_S, accept_LC_S, accept_TA0, accept_TA1] at hA
  simp only [accept_cfg, accept_CC, accept_B] at hC
  have hsame := hA.same hC (by simp) (sameAudio_prepared g d s _ _) (sameRate_prepared g d s _ _) hdt hweights htone
  exact ⟨⟨false, 0#64⟩, ⟨false, 0#64⟩, ⟨false, ya⟩, ⟨false, yc⟩, t, u,
    runCommands_setGain_setDelay hs g d (runCommands_cons hp rfl hexecA hA.emitted rfl),
    runCommands_cons hs rfl hexecC hC.emitted rfl, rfl, rfl, rfl, rfl, hsame⟩

end Sys2Proof

/-! SUPPORT. Proofs of the family 42_control, part 1: the commands that answer, the setters one by one, and who writes the
audio state (O22, O24, O26 to O30, O43). -/

namespace Sys2Proof.F64

/-- Taking 1 from a number of at least 1 and below `2 ^ 53` is exact: the result is a multiple of the unit in the number's
last place and not above the number. -/
theorem sub_one_exact (ν : NanSeed) {x : F64} {k r : Nat} (hfin : isFinite x = true) (hx : value x = k * unit + r)
    (hr : r < unit) (hpos : 0 < k) (hk : k < 2 ^ 53) :
    isFinite (sub ν x one) = true ∧ value (sub ν x one) = value x - unit := by
  obtain ⟨k, rfl⟩ := Nat.exists_eq_succ_of_ne_zero hpos.ne'
  have hscaled : scaled x = k * unit + r + unit := by
    rw [scaled_of_value_eq (n := (k + 1) * unit + r) (by rw [hx, Nat.cast_add, Nat.cast_mul]), Nat.succ_mul,
      Nat.add_right_comm]
  have hbound : scaled x < 2 ^ 53 * unit := by
    calc scaled x < (k + 1 + 1) * unit := by rw [hscaled, Nat.add_mul, Nat.add_mul]; omega
      _ ≤ 2 ^ 53 * unit := Nat.mul_le_mul_right unit hk
  obtain ⟨u, huunit, hu, hrep⟩ := exists_ulp hfin hbound
  have hun : u ∣ k * unit + r := (Nat.dvd_add_left huunit).mp (hscaled ▸ hu)
  have hval : value x - unit = (k * unit + r : Nat) := by
    rw [hx]
    push_cast
    ring
  rw [hval]
  exact add_exact ν hfin (by decide) (by rw [value_neg, value_one, ← sub_eq_add_neg, hval]) (hrep _ hun (by omega))

end Sys2Proof.F64

namespace Sys2Proof

open F64

/-! ## The clamped arguments, case by case (40_datapath.md R117) -/

section
variable {c : Config} (hc : c.valid = true)
include hc

/-- The compensation of a clamped delay is exact. -/
theorem delayArg_exact (ν : NanSeed) (v : F64) :
    isFinite (delayArg ν c v) = true ∧ value (delayArg ν c v) = value (clampDelay c v) - unit := by
  have hlt := Config.minDelay_lt_maxDelay hc
  have hmax := Config.maxDelay_lt hc
  have hmin : 3 ≤ c.minDelay := Nat.le_max_left _ _
  obtain ⟨hlo, hhi⟩ := clampDelay_between hc v
  obtain ⟨hfin, k, r, hk, hk', hr, hx⟩ := exists_whole_and_rest (hlt.trans hmax) hmax hlo hhi
  exact sub_one_exact ν hfin hx hr (by omega) (by omega)

theorem clampDelay_of_low {a : F64} (h : isNaN a = true ∨ lt a c.minDelayF = true) :
    clampDelay c a = c.minDelayF :=
  h.elim (clampP_of_isNaN (le_refl_of_not_nan (isNaN_ofNat _)) (Config.minDelayF_le_maxDelayF hc)) clampP_of_lt

theorem value_minDelayF : value c.minDelayF = c.minDelay * unit :=
  (ofNat_exact ((Config.minDelay_lt_maxDelay hc).trans (Config.maxDelay_lt hc))).2

theorem value_maxDelayF : value c.maxDelayF = c.maxDelay * unit := (ofNat_exact (Config.maxDelay_lt hc)).2

/-- What SET_DELAY stores (42_control.md R161), for an argument below, above and in the range. -/
theorem value_delayArg (ν : NanSeed) (a : F64) :
    (isNaN a = true ∨ lt a c.minDelayF = true → value (delayArg ν c a) = ((c.minDelay : Int) - 1) * unit) ∧
    (lt c.maxDelayF a = true → value (delayArg ν c a) = ((c.maxDelay : Int) - 1) * unit) ∧
    (le c.minDelayF a = true → le a c.maxDelayF = true → value (delayArg ν c a) = value a - unit) := by
  rw [(delayArg_exact hc ν a).2, sub_one_mul, sub_one_mul, ← value_minDelayF hc, ← value_maxDelayF hc]
  refine ⟨fun h => ?_, fun h => ?_, fun hlo hhi => ?_⟩
  · rw [clampDelay_of_low hc h]
  · rw [clampDelay, clampP_of_gt (Config.minDelayF_le_maxDelayF hc) h]
  · rw [clampDelay, clampP_of_between hlo hhi]

/-- The offset of tap 0 and `H` are together the whole part of a stored delay (40_datapath.md R100). -/
theorem split_dt_bounds (ν : NanSeed) {s : F64} (hlo : le (ofNat (c.minDelay - 1)) s = true)
    (hhi : le s (ofNat (c.maxDelay - 1)) = true) :
    (((split ν c s).dt : Int) + c.h) * unit ≤ value s ∧ value s < (((split ν c s).dt : Int) + c.h + 1) * unit := by
  obtain ⟨-, -, hp, hplo, hphi⟩ := tapOffsetsStayInTheBuffer c ν s hc hlo hhi
  constructor <;> linarith

/-- The four outcomes of `gainArg`. -/
theorem gainArg_spec (g : F64) :
    (isNaN g = true → gainArg c g = pzero) ∧ (lt g (neg c.maxGain) = true → gainArg c g = neg c.maxGain) ∧
    (lt c.maxGain g = true → gainArg c g = c.maxGain) ∧
    (le (neg c.maxGain) g = true → le g c.maxGain = true → gainArg c g = g) := by
  have hpos := Config.zero_lt_maxGain hc
  have hlo := neg_le_zero_of_lt hpos
  have hhi := le_of_lt hpos
  exact ⟨clampP_of_isNaN hlo hhi, clampP_of_lt, clampP_of_gt (le_trans hlo hhi), clampP_of_between⟩

/-- The outcomes of `brightArg`; `-0.0` is not below zero. -/
theorem brightArg_spec (b : F64) :
    (isNaN b = true → brightArg c b = pzero) ∧ (lt b pzero = true → brightArg c b = pzero) ∧
    (lt c.maxGain b = true → brightArg c b = c.maxGain) ∧
    (le pzero b = true → le b c.maxGain = true → brightArg c b = b) ∧
    (b = 0x8000000000000000#64 → brightArg c b = b) := by
  have hhi := le_of_lt (Config.zero_lt_maxGain hc)
  refine ⟨clampP_of_isNaN (by decide) hhi, clampP_of_lt, clampP_of_gt hhi, clampP_of_between, ?_⟩
  rintro rfl
  exact clampP_of_between (by decide) (le_trans (by decide) hhi)

end

/-- SET_SR takes every finite rate of at least 1.0 (42_control.md R164). -/
theorem badSampleRate_eq_false {r : F64} (hfin : isFinite r = true) (hone : le one r = true) :
    badSampleRate r = false := by
  simp [badSampleRate, hfin, isNaN_of_isFinite hfin, lt_eq_false_of_le hone]

end Sys2Proof

namespace Sys2Proof.Machine

open F64

/-! ## What the commands leave alone -/

/-- An answer writes the response port alone. -/
theorem respond_frame (err : Bool) (d : F64) (s : State) :
    SameSetup s (respond err d s) ∧ SameAudio s (respond err d s) ∧ SameStatus s (respond err d s) ∧
      SameInputs s (respond err d s) :=
  ⟨⟨⟨rfl, rfl, rfl⟩, rfl, rfl, ⟨rfl, rfl⟩, ⟨rfl, rfl, rfl, rfl⟩, ⟨rfl, rfl⟩⟩,
    ⟨fun _ => rfl, ⟨rfl, rfl, rfl, rfl, rfl⟩⟩, ⟨rfl, rfl, rfl⟩, ⟨rfl, rfl⟩⟩

/-- No command but a STEP or a CLEAR writes the audio state (42_control.md R168). -/
theorem CommandResult.sameAudio {s t : State} {d : Except Cause Instr} (h : CommandResult s d t)
    (hd : ∀ i, d = .ok i → isStep i = false ∧ i ≠ .clear) : SameAudio s t := by
  cases h with
  | clear => exact absurd rfl (hd _ rfl).2
  | sample i v hi hcursor => exact absurd hi (Bool.eq_false_iff.mp (hd i rfl).1)
  | _ => exact ⟨by simp, by constructor <;> simp⟩

theorem sameAudio_of_accept {s t : State} {rest : List Input} (h : SameAudio (accept rest s) t) : SameAudio s t := by
  obtain ⟨hbuf, hCURSOR, hTX1, hTX2, hDU1, hDY1⟩ := h
  exact ⟨hbuf, ⟨hCURSOR, hTX1, hTX2, hDU1, hDY1⟩⟩

/-- What SET_DELAY, SET_GAIN and SET_BRIGHT have in common (42_control.md R161 to R163): they answer `{0, 0}` and leave
everything but the parameters and the caches of these alone. -/
theorem frame_of_isParamSetter {i : Instr} {s t : State} (hi : isParamSetter i = true) (h : exec i s = .next t) :
    t.resp = some ⟨false, 0#64⟩ ∧ SameRate s t ∧ SameFixed s t ∧ SameAudio s t ∧ SameStatus s t ∧ SameInputs s t := by
  cases i with
  | setDelay | setGain | setBright =>
    obtain rfl := Host.Outcome.next.inj h
    exact ⟨rfl, ⟨rfl, rfl, rfl, rfl⟩, ⟨rfl, rfl⟩, ⟨fun _ => rfl, ⟨rfl, rfl, rfl, rfl, rfl⟩⟩, ⟨rfl, rfl, rfl⟩,
      ⟨rfl, rfl⟩⟩
  | _ => exact nomatch hi

/-- The state that SET_BRIGHT leaves. -/
def brightSet (b : F64) (s : State) : State :=
  respond false 0#64 (retune (s.seed.site 4) (storeBright (brightArg s.cfg b) s))

theorem exec_setBright (b : F64) (s : State) : exec (.setBright b) s = .next (brightSet b s) := rfl

/-- Every register that exists has a value. -/
theorem exists_regValue {s : State} {reg : Reg} (h : reg.assigned s.cfg = true) : ∃ v, regValue s reg = some v := by
  cases reg with
  | lc j => exact ⟨_, if_pos (of_decide_eq_true h)⟩
  | cc j => exact ⟨_, if_pos (of_decide_eq_true h)⟩
  | _ => exact ⟨_, rfl⟩

end Sys2Proof.Machine

namespace Sys2Proof

open F64 Sys2Proof.Machine

/-- Settles O26: the stored delay by `value_delayArg`; it is in the range where its split is exact (O37). -/
theorem setDelayStoresClampedDelay : Obligations.SetDelayStoresClampedDelay := by
  intro s a hc
  obtain ⟨hresp, hframe⟩ := frame_of_isParamSetter rfl (exec_setDelay a s)
  obtain ⟨hlow, hhigh, hin⟩ := value_delayArg hc (s.seed.site 1) a
  obtain ⟨hlo, hhi⟩ := delayArg_between hc (s.seed.site 1) a
  obtain ⟨-, hpfin, hp, -⟩ := tapOffsetsStayInTheBuffer s.cfg (s.seed.site 2) (modDelay a s) hc hlo hhi
  obtain ⟨hdt, hdt'⟩ := split_dt_bounds hc (s.seed.site 2) hlo hhi
  exact ⟨delaySet a s, exec_setDelay a s, hresp, (delayArg_exact hc _ a).1, hlow, hhigh, hin, hdt, hdt',
    ⟨_, (modSplit a s).p, hpfin, eq_sub_of_add_eq hp, rfl⟩, ⟨_, rfl⟩, rfl, rfl, hframe⟩

/-- Settles O27: the stored gain by `gainArg_spec`. -/
theorem setGainClampsAndRetunes : Obligations.SetGainClampsAndRetunes := by
  intro s g hc
  obtain ⟨hresp, hframe⟩ := frame_of_isParamSetter rfl (exec_setGain g s)
  obtain ⟨hnan, hlow, hhigh, hin⟩ := gainArg_spec hc g
  exact ⟨gainSet g s, exec_setGain g s, hresp, hnan, hlow, hhigh, hin, ⟨_, rfl⟩, ⟨rfl, rfl, rfl⟩, rfl, hframe⟩

/-- Settles O28: the stored brightness by `brightArg_spec`. -/
theorem setBrightClampsAndRetunes : Obligations.SetBrightClampsAndRetunes := by
  intro s b hc
  obtain ⟨hresp, hframe⟩ := frame_of_isParamSetter rfl (exec_setBright b s)
  obtain ⟨hnan, hlow, hhigh, hin, hzero⟩ := brightArg_spec hc b
  exact ⟨brightSet b s, exec_setBright b s, hresp, hnan, hlow, hhigh, hin, hzero, ⟨_, rfl⟩, ⟨rfl, rfl, rfl⟩, rfl, hframe⟩

/-- Settles O29: such a rate is not rejected, and `dcCoef` is R112 operation by operation. -/
theorem setSampleRateStoresCoefficients : Obligations.SetSampleRateStoresCoefficients := by
  intro s r hfin hone
  rcases exec_setSr_cases r s with ⟨hbad, -⟩ | ⟨-, hexec⟩
  · exact absurd hbad (Bool.eq_false_iff.mp (badSampleRate_eq_false hfin hone))
  · exact ⟨_, hexec, rfl, rfl, ⟨_, _, _, _, _, _, _, _, _, rfl, rfl, rfl, rfl, rfl⟩, ⟨rfl, rfl, rfl⟩, rfl, rfl,
      ⟨rfl, rfl⟩, ⟨rfl, rfl⟩, ⟨fun _ => rfl, ⟨rfl, rfl, rfl, rfl, rfl⟩⟩, ⟨rfl, rfl, rfl⟩, ⟨rfl, rfl⟩⟩

/-- Settles O43: an idle step changes nothing, and of the commands only a STEP or a CLEAR writes the audio state. -/
theorem onlyStepClearAndResetWriteAudio : Obligations.OnlyStepClearAndResetWriteAudio := by
  intro s t h hreset hcmd
  rcases step_next h with ⟨-, rfl⟩ | ⟨f, rest, hin, -⟩ | ⟨tr, rest, hin, hresult⟩
  · exact ⟨fun _ => rfl, ⟨rfl, rfl, rfl, rfl, rfl⟩⟩
  · exact absurd hin (hreset f rest)
  · exact sameAudio_of_accept (hresult.sameAudio fun i hi => hcmd tr rest i hin hi)

/-- The all-zero word decodes to NOP, whatever the lanes (30_encoding.md R82, R88). -/
theorem decode_nop (c : Config) (a b x : F64) : decode c ⟨0#32, a, b, x⟩ = .ok .nop := by
  obtain ⟨hrsv, hsel, hop⟩ : cmdRsv 0#32 = 0#20 ∧ cmdSel 0#32 = 0#8 ∧ cmdOp 0#32 = 0#4 := Laws.EncodedFields.nop
  rw [decode, decodeOp, hrsv, hsel, hop]
  rfl

/-- Settles O22: `decode_nop`, and an answer writes nothing else (`respond_frame`). -/
theorem nopOnlyAnswers : Obligations.NopOnlyAnswers :=
  ⟨decode_nop, fun s => ⟨_, rfl, rfl, respond_frame false 0#64 s⟩⟩

/-- Settles O24: a register that exists has a value, and GET only answers it. -/
theorem getHasNoSideEffect : Obligations.GetHasNoSideEffect := by
  intro s reg hreg
  obtain ⟨v, hv⟩ := exists_regValue hreg
  exact ⟨_, v, exec_get_of_regValue hv, rfl, respond_frame false v s⟩

/-- Settles O30: the buffer without a listed word reads as zero everywhere, the other registers are those that
`clearAudio` and `setPhase` write. -/
theorem clearZeroesAudioState : Obligations.ClearZeroesAudioState := fun _ =>
  ⟨_, rfl, rfl, fun _ => rfl, rfl, rfl, rfl, rfl, rfl, rfl,
    ⟨⟨rfl, rfl, rfl⟩, rfl, rfl, ⟨rfl, rfl⟩, ⟨rfl, rfl, rfl, rfl⟩, ⟨rfl, rfl⟩⟩, rfl, rfl, ⟨rfl, rfl⟩⟩

end Sys2Proof

/-! SUPPORT. Proofs of the family 42_control, part 2: runs of commands that end in the same state, whatever was before
CLEAR and whatever the order of the setters (O31, O32). -/

namespace Sys2Proof.Machine

open F64

/-! ## A STEP after CLEAR (42_control.md R165) -/

/-- The state `s` with another STATUS and other inputs to come. -/
def withStatus (err : Bool) (ecause : Option Cause) (inbox : List Input) (s : State) : State :=
  { s with ERR := err, ECAUSE := ecause, inbox := inbox }

/-- The sample of a STEP is computed from neither STATUS nor the inputs to come. -/
theorem exec_withStatus {s : State} {i : Instr} (hi : isStep i = true) (hcursor : s.CURSOR < s.cfg.len) (err : Bool)
    (ecause : Option Cause) (inbox : List Input) :
    ∃ v, exec i s = .next (respond false v.y (storeSample v s)) ∧
      exec i (withStatus err ecause inbox s) =
        .next (respond false v.y (storeSample v (withStatus err ecause inbox s))) := by
  have hcursor' : (withStatus err ecause inbox s).CURSOR < (withStatus err ecause inbox s).cfg.len := hcursor
  cases i with
  | stepA | stepB | stepC =>
    exact ⟨_, oneSample_of_cursor hcursor _ _ _ _ _, oneSample_of_cursor hcursor' _ _ _ _ _⟩
  | _ => exact nomatch hi

/-- The state that CLEAR leaves. -/
def cleared (s : State) : State := respond false 0#64 (setPhase .cleared (clearAudio s))

theorem exec_clear (s : State) : exec .clear s = .next (cleared s) := rfl

/-- CLEAR leaves of two states with the same parameters the same state but for STATUS and the inputs to come. -/
theorem cleared_eq_withStatus {s u : State} (h : SameSetup s u) (hseq : s.freeSeq = u.freeSeq) :
    cleared u = withStatus u.ERR u.ECAUSE u.inbox (cleared s) := by
  obtain ⟨⟨hS, hDT, hLC⟩, hG, hB, ⟨hTA0, hTA1⟩, ⟨hSR, hDA0, hDA1, hDB1⟩, hcfg, hCC⟩ := h
  simp [cleared, withStatus, respond, setPhase, clearAudio, *]

/-! ## A run of setters (42_control.md R167) -/

/-- `t` holds the parameters that the commands `is` set last, and those of `s` that they do not set. -/
structure HoldsLast (is : List Instr) (s t : State) : Prop where
  cfg : t.cfg = s.cfg
  S : ∀ ν, t.S = ((lastDelay is).map (delayArg ν s.cfg)).getD s.S
  G : t.G = ((lastGain is).map (gainArg s.cfg)).getD s.G
  B : t.B = ((lastBright is).map (brightArg s.cfg)).getD s.B

theorem holdsLast_of_exec {i : Instr} {s t : State} {rest : List Input} (hc : s.cfg.valid = true)
    (hi : isParamSetter i = true) (h : exec i (accept rest s) = .next t) : HoldsLast [i] s t := by
  cases i with
  | setDelay a =>
    obtain rfl := Host.Outcome.next.inj h
    exact ⟨rfl, fun ν => delayArg_eq_of_valid hc _ ν a, rfl, rfl⟩
  | setGain | setBright =>
    obtain rfl := Host.Outcome.next.inj h
    exact ⟨rfl, fun _ => rfl, rfl, rfl⟩
  | _ => exact nomatch hi

/-- The last argument of a list is that of its tail, or else that of its head. -/
theorem last_cons (i : Instr) (is : List Instr) :
    lastDelay (i :: is) = (lastDelay is).or (lastDelay [i]) ∧ lastGain (i :: is) = (lastGain is).or (lastGain [i]) ∧
      lastBright (i :: is) = (lastBright is).or (lastBright [i]) := by
  cases i <;> simp [lastDelay, lastGain, lastBright, Option.or_some]

theorem getD_map_or {α β : Type} (o p : Option α) (f : α → β) (b : β) :
    ((o.or p).map f).getD b = (o.map f).getD ((p.map f).getD b) := by
  cases o <;> rfl

theorem HoldsLast.cons {i : Instr} {is : List Instr} {s t u : State} (h : HoldsLast [i] s t) (h' : HoldsLast is t u) :
    HoldsLast (i :: is) s u := by
  obtain ⟨hdelay, hgain, hbright⟩ := last_cons i is
  refine ⟨h'.cfg.trans h.cfg, fun ν => ?_, ?_, ?_⟩
  · rw [hdelay, getD_map_or, ← h.S ν, ← h.cfg, h'.S ν]
  · rw [hgain, getD_map_or, ← h.G, ← h.cfg, h'.G]
  · rw [hbright, getD_map_or, ← h.B, ← h.cfg, h'.B]

theorem wellFormed_of_isParamSetter {i : Instr} (h : isParamSetter i = true) (c : Config) : i.wellFormed c = true := by
  cases i with
  | get reg => exact nomatch h
  | _ => rfl

/-- Every setter of a run is accepted and keeps the invariant, and the last argument of each stands. -/
theorem exists_runCommands_of_isParamSetter (is : List Instr) {s : State} (hs : s.Inv)
    (his : is.all isParamSetter = true) :
    ∃ rs t, runCommands is s = some (rs, t) ∧ t.Inv ∧ HoldsLast is s t := by
  induction is generalizing s with
  | nil => exact ⟨[], s, rfl, hs, ⟨rfl, fun _ => rfl, rfl, rfl⟩⟩
  | cons i is ih =>
    obtain ⟨hi, his⟩ := Bool.and_eq_true_iff.mp his
    obtain ⟨t, hexec⟩ := exists_exec_next i (hs.accept s.inbox).cursorRange
    obtain ⟨hresp, -⟩ := frame_of_isParamSetter hi hexec
    have ht : t.Inv := (commandResult_of_exec hexec).inv (hs.accept s.inbox)
    obtain ⟨rs, u, hrun, hu, hlast⟩ := ih ht his
    exact ⟨_ :: rs, u, runCommands_cons hs (wellFormed_of_isParamSetter hi _) hexec hresp hrun, hu,
      (holdsLast_of_exec hs.cfgValid hi hexec).cons hlast⟩

/-- In states of the invariant the caches of the same parameters are the same up to the bits of a NaN. -/
theorem caches_same {t u : State} (ht : t.Inv) (hu : u.Inv) (hcfg : t.cfg = u.cfg) (hS : t.S = u.S) (hG : t.G = u.G)
    (hB : t.B = u.B) :
    t.DT_S = u.DT_S ∧ sameList t.LC_S u.LC_S ∧ same t.TA0 u.TA0 = true ∧ same t.TA1 u.TA1 = true := by
  obtain ⟨ν, μ, hDT, hLC⟩ := hu.delayCache
  obtain ⟨ξ, htone⟩ := hu.toneCache
  obtain ⟨hTA0, hTA1⟩ := Prod.mk.inj htone
  rw [hDT, hLC, hTA0, hTA1, ← hcfg, ← hS, ← hG, ← hB]
  exact ⟨ht.DT_S_eq ν, ht.LC_S_same μ ν, ht.tone_same ξ⟩

end Sys2Proof.Machine

namespace Sys2Proof

open Sys2Proof.Machine

/-- Settles O31: after CLEAR the two states differ in STATUS and inputs alone (`cleared_eq_withStatus`), which a STEP does
not read (`exec_withStatus`). -/
theorem clearForgetsTheHistory : Obligations.ClearForgetsTheHistory := by
  intro s u i hsetup hseq hi
  obtain ⟨v, hs, hu⟩ := exec_withStatus (s := cleared s) hi (Config.len_pos s.cfg) u.ERR u.ECAUSE u.inbox
  rw [← cleared_eq_withStatus hsetup hseq] at hu
  refine ⟨_, _, _, _, exec_clear s, hs, exec_clear u, hu, rfl, ⟨fun _ => rfl, ⟨?_, rfl, rfl, rfl, rfl⟩⟩⟩
  exact congrArg (fun c => (0 + 1) % c.len) hsetup.fixed.cfg

/-- Settles O32: both runs end in states of the invariant with the same parameters, so their caches agree. -/
theorem setterOrderDoesNotMatter : Obligations.SetterOrderDoesNotMatter := by
  intro s is js hs his hjs hdelay hgain hbright
  obtain ⟨rs, t, hrun, ht, htlast⟩ := exists_runCommands_of_isParamSetter is hs his
  obtain ⟨qs, u, hrun', hu, hulast⟩ := exists_runCommands_of_isParamSetter js hs hjs
  have hS : t.S = u.S := by rw [htlast.S s.seed, hulast.S s.seed, hdelay]
  have hG : t.G = u.G := by rw [htlast.G, hulast.G, hgain]
  have hB : t.B = u.B := by rw [htlast.B, hulast.B, hbright]
  exact ⟨rs, qs, t, u, hrun, hrun', hS, hG, hB, caches_same ht hu (htlast.cfg.trans hulast.cfg.symm) hS hG hB⟩

end Sys2Proof

/-! SUPPORT. Proofs of the family 60_exceptions, part 1: runs of any length, and a rejection (O20, O13, O12). -/

namespace Sys2Proof.Machine

/-! ## Every step completes (60_exceptions.md R201, R204, R212) -/

theorem step_of_inbox_nil {s : State} (hvalid : s.cfg.valid = true) (hin : s.inbox = []) : step s = .next s := by
  rw [step, fetch, if_pos hvalid, hin]

theorem step_of_inbox_reset {s : State} {f : Option Transaction} {rest : List Input} (hvalid : s.cfg.valid = true)
    (hin : s.inbox = .reset f :: rest) : step s = .next (takeReset rest s) := by
  rw [step, fetch, if_pos hvalid, hin]

/-- In a state of the invariant a step completes, whatever the next input is. -/
theorem State.Inv.exists_step_next {s : State} (hs : s.Inv) : ∃ t, step s = .next t := by
  cases hin : s.inbox with
  | nil => exact ⟨_, step_of_inbox_nil hs.cfgValid hin⟩
  | cons x rest =>
    cases x with
    | reset f => exact ⟨_, step_of_inbox_reset hs.cfgValid hin⟩
    | command tr => exact Machine.exists_step_next hs.cfgValid hs.started hs.cursorRange hin

/-! ## A rejection (60_exceptions.md R201) -/

/-- A rejection writes ERR, ECAUSE and the response port alone. -/
theorem reject_frame (c : Cause) (s : State) :
    SameSetup s (reject c s) ∧ SameAudio s (reject c s) ∧ (reject c s).PHASE = s.PHASE ∧
      SameInputs s (reject c s) :=
  ⟨⟨⟨rfl, rfl, rfl⟩, rfl, rfl, ⟨rfl, rfl⟩, ⟨rfl, rfl, rfl, rfl⟩, ⟨rfl, rfl⟩⟩,
    ⟨fun _ => rfl, ⟨rfl, rfl, rfl, rfl, rfl⟩⟩, rfl, ⟨rfl, rfl⟩⟩

/-- SET_SR rejects a NaN, an infinity and a rate below 1.0 (42_control.md R164). -/
theorem badSampleRate_eq_true {r : F64} (h : F64.isNaN r = true ∨ F64.isInf r = true ∨ F64.lt r F64.one = true) :
    badSampleRate r = true := by
  rw [badSampleRate, Bool.or_eq_true, Bool.or_eq_true, Bool.not_eq_true']
  rcases h with hnan | hinf | hlt
  · exact .inl (.inl hnan)
  · refine .inl (.inr (Bool.eq_false_iff.mpr fun hfin => ?_))
    exact absurd hinf (Bool.eq_false_iff.mp (F64.isInf_of_isFinite hfin))
  · exact .inr hlt

end Sys2Proof.Machine

namespace Sys2Proof

open Sys2Proof.Machine

/-- Settles O20, by induction on the number of steps: each completes (`State.Inv.exists_step_next`) in a state of the
invariant (O19). -/
theorem coreNeverStops : Obligations.CoreNeverStops := by
  intro s k hs
  induction k generalizing s with
  | zero => exact ⟨s, rfl, hs⟩
  | succ k ih =>
    obtain ⟨t, ht⟩ := hs.exists_step_next
    rw [run_succ_of_next ht]
    exact ih t (everyStepKeepsTheInvariant s t hs ht)

/-- Settles O13, by induction on the number of steps, each of which is idle. -/
theorem idleCoreHoldsItsState : Obligations.IdleCoreHoldsItsState := by
  intro s k hvalid hin
  induction k with
  | zero => rfl
  | succ k ih => rw [run_succ_of_next (step_of_inbox_nil hvalid hin), ih]

/-- Settles O12: both rejections answer `reject`, which leaves the rest alone (`reject_frame`). -/
theorem rejectionChangesOnlyErrAndCause : Obligations.RejectionChangesOnlyErrAndCause := by
  refine ⟨fun s t rest c hvalid hphase hin hdec => ?_, fun s r hr => ?_⟩
  · obtain ⟨hsetup, haudio, hPHASE, hinputs⟩ := reject_frame c (accept rest s)
    exact ⟨_, step_of_decode_error hvalid hphase hin hdec, rfl, rfl, rfl, (sameSetup_accept rest s).trans hsetup,
      sameAudio_of_accept haudio, hPHASE, hinputs.inbox⟩
  · rcases exec_setSr_cases r s with ⟨-, hexec⟩ | ⟨hgood, -⟩
    · exact ⟨_, hexec, rfl, rfl, rfl, reject_frame .badSampleRate s⟩
    · exact absurd (badSampleRate_eq_true hr) (Bool.eq_false_iff.mp hgood)

end Sys2Proof

/-! SUPPORT. Proofs of the family 60_exceptions, part 2: the way of a NaN through a sample (O38). -/

namespace Sys2Proof

open F64

/-! ## The per-sample delay does not depend on the free bits, in any configuration -/

theorem isNaN_clampP {lo hi dflt : F64} (hlo : isNaN lo = false) (hhi : isNaN hi = false) (hdflt : isNaN dflt = false)
    (v : F64) : isNaN (clampP v lo hi dflt) = false := by
  have hw : isNaN (if isNaN v then dflt else v) = false := by
    cases hv : isNaN v with
    | true => exact hdflt
    | false => exact hv
  rw [clampP]
  generalize (if isNaN v then dflt else v) = w at hw
  split_ifs
  · exact hlo
  · exact hhi
  · exact hw

/-- The clamp leaves no NaN, and subtracting 1.0 makes none. -/
theorem delayArg_eq (c : Config) (ν μ : NanSeed) (v : F64) : delayArg ν c v = delayArg μ c v := by
  have hclamp : isNaN (clampDelay c v) = false := isNaN_clampP (isNaN_ofNat _) (isNaN_ofNat _) (isNaN_ofNat _) v
  exact eq_of_same (sub_same ν μ (same_refl _) (same_refl _)) (isNaN_add_of_isFinite_right ν hclamp (by decide))

namespace Machine

/-! ## A NaN operand makes each stage of the sample a NaN (40_datapath.md R105, R111, R113) -/

theorem IsSum.isNaN {a b r : F64} (h : IsSum a b r) (hab : isNaN a = true ∨ isNaN b = true) : isNaN r = true := by
  obtain ⟨ν, rfl⟩ := h
  exact isNaN_add ν hab

theorem IsProduct.isNaN {a b r : F64} (h : IsProduct a b r) (hb : isNaN b = true) : isNaN r = true := by
  obtain ⟨ν, rfl⟩ := h
  exact isNaN_mul_of_right ν a hb

theorem IsFir.isNaN {c0 x0 c1 x1 c2 x2 r : F64} (h : IsFir c0 x0 c1 x1 c2 x2 r)
    (hx : isNaN x0 = true ∨ isNaN x1 = true ∨ isNaN x2 = true) : isNaN r = true := by
  obtain ⟨p0, p1, p2, q, h0, h1, hq, h2, hr⟩ := h
  refine hr.isNaN ?_
  rcases hx with hx | hx | hx
  · exact .inl (hq.isNaN (.inl (h0.isNaN hx)))
  · exact .inl (hq.isNaN (.inr (h1.isNaN hx)))
  · exact .inr (h2.isNaN hx)

/-- A running sum that is a NaN, or a NaN in a tap still to come, makes the sum a NaN. -/
theorem TapSum.isNaN {s : State} {dt j : Nat} {acc x : F64} {w : List F64} (h : TapSum s dt j acc w x)
    (hnan : isNaN acc = true ∨ ∃ k, k < w.length ∧ isNaN (readAt s (dt + (j + k))) = true) : isNaN x = true := by
  induction w generalizing j acc with
  | nil =>
    obtain rfl : x = acc := h
    exact hnan.resolve_right fun ⟨k, hk, _⟩ => absurd hk k.not_lt_zero
  | cons c ws ih =>
    obtain ⟨p, q, hp, hq, hsum⟩ := h
    refine ih hsum ?_
    rcases hnan with hacc | ⟨_ | k, hk, htap⟩
    · exact .inl (hq.isNaN (.inl hacc))
    · exact .inl (hq.isNaN (.inr (hp.isNaN htap)))
    · exact .inr ⟨k, Nat.lt_of_succ_lt_succ hk, by rwa [Nat.add_assoc, Nat.add_comm 1]⟩

theorem IsInterp.isNaN {s : State} {dt j : Nat} {w : List F64} {x : F64} (h : IsInterp s dt w x) (hj : j < w.length)
    (htap : isNaN (readAt s (dt + j)) = true) : isNaN x = true := by
  cases w with
  | nil => exact absurd hj j.not_lt_zero
  | cons c ws =>
    obtain ⟨p, hp, hsum⟩ := h
    cases j with
    | zero => exact hsum.isNaN (.inl (hp.isNaN htap))
    | succ k => exact hsum.isNaN (.inr ⟨k, Nat.lt_of_succ_lt_succ hj, by rwa [Nat.add_comm 1]⟩)

/-! ## A NaN in the sample (60_exceptions.md R214, 70_reset_and_hazards.md R239) -/

namespace OneSample

variable {s t : State} {e y : F64} {w : List F64} {dt : Nat} {a : F64 × F64} (h : OneSample s t e w dt a y)
include h

theorem isNaN_of_history (hnan : isNaN s.TX1 = true ∨ isNaN s.TX2 = true ∨ isNaN s.DU1 = true ∨ isNaN s.DY1 = true) :
    isNaN y = true := by
  obtain ⟨f, -, hf, hu, hy⟩ := h.values
  rcases hnan with hTX1 | hTX2 | hDU1 | hDY1
  · exact hy.isNaN (.inl (hu.isNaN (.inl (hf.isNaN (.inr (.inl hTX1))))))
  · exact hy.isNaN (.inl (hu.isNaN (.inl (hf.isNaN (.inr (.inr hTX2))))))
  · exact hy.isNaN (.inr (.inl hDU1))
  · exact hy.isNaN (.inr (.inr hDY1))

theorem isNaN_of_excitation (he : isNaN e = true) : isNaN y = true ∧ isNaN t.DU1 = true := by
  obtain ⟨f, -, -, hu, hy⟩ := h.values
  exact ⟨hy.isNaN (.inl (hu.isNaN (.inr he))), hu.isNaN (.inr he)⟩

theorem isNaN_of_tap {j : Nat} (hj : j < w.length) (htap : isNaN (readAt s (dt + j)) = true) :
    isNaN t.TX1 = true ∧ isNaN y = true := by
  obtain ⟨f, hx, hf, hu, hy⟩ := h.values
  have hTX1 := hx.isNaN hj htap
  exact ⟨hTX1, hy.isNaN (.inl (hu.isNaN (.inl (hf.isNaN (.inl hTX1)))))⟩

end OneSample

/-! ## What a STEP of each mode makes its sample of (41_processing.md R141 to R143) -/

/-- `StepOperands s i e w dt`: the STEP `i` on `s` adds the excitation `e` and weighs the taps from offset `dt` on by
`w`. -/
inductive StepOperands (s : State) : Instr → F64 → List F64 → Nat → Prop
  | stepA (e : F64) : StepOperands s (.stepA e) e s.LC_S s.DT_S
  | stepB (e d : F64) : StepOperands s (.stepB e d) e (modWeights d s) (modSplit d s).dt
  | stepC (e g d : F64) : StepOperands s (.stepC e g d) e (modWeights d s) (modSplit d s).dt

theorem exec_eq_oneSample {i : Instr} (hi : isStep i = true) (s : State) :
    ∃ ν e w dt a, exec i s = oneSample ν e w dt a s ∧ StepOperands s i e w dt := by
  cases i with
  | stepA e => exact ⟨_, _, _, _, _, exec_stepA e s, .stepA e⟩
  | stepB e d => exact ⟨_, _, _, _, _, exec_stepB e d s, .stepB e d⟩
  | stepC e g d => exact ⟨_, _, _, _, _, exec_stepC e g d s, .stepC e g d⟩
  | _ => exact nomatch hi

theorem length_modWeights (d : F64) (s : State) : (modWeights d s).length = s.cfg.n + 1 := by
  simp [modWeights, dynamicWeights]

theorem modSplit_dt (ν : NanSeed) (d : F64) (s : State) :
    (modSplit d s).dt = (split ν s.cfg (delayArg ν s.cfg d)).dt := by
  rw [modSplit, modDelay, delayArg_eq s.cfg _ ν]
  rfl

namespace StepOperands

variable {s : State} {i : Instr} {e : F64} {w : List F64} {dt : Nat} (h : StepOperands s i e w dt)
include h

theorem excitation {e' g d : F64} (hi : i = .stepA e' ∨ i = .stepB e' d ∨ i = .stepC e' g d) : e = e' := by
  rcases hi with rfl | rfl | rfl <;> cases h <;> rfl

theorem staticTaps {e' : F64} (hi : i = .stepA e') : w = s.LC_S ∧ dt = s.DT_S := by
  subst hi
  cases h
  exact ⟨rfl, rfl⟩

theorem modulatedTaps {e' g d : F64} (hi : i = .stepB e' d ∨ i = .stepC e' g d) (ν : NanSeed) :
    w.length = s.cfg.n + 1 ∧ dt = (split ν s.cfg (delayArg ν s.cfg d)).dt := by
  rcases hi with rfl | rfl <;> cases h <;> exact ⟨length_modWeights d s, modSplit_dt ν d s⟩

end StepOperands

end Machine

end Sys2Proof

namespace Sys2Proof

open Sys2Proof.Machine

/-- Settles O38: a STEP is one sample of its operands, through whose stages a NaN passes from the excitation, from each
history register and from each tap. -/
theorem nanRecirculates : Obligations.NanRecirculates := by
  intro s i hcursor hwf hi
  obtain ⟨ν, e, w, dt, a, hexec, hop⟩ := exec_eq_oneSample hi s
  obtain ⟨t, y, hnext, hsample⟩ := exists_oneSample hwf hcursor ν e w dt a
  refine ⟨t, y, hexec.trans hnext, hsample.emitted, hsample.DY1, hsample.written, hsample.isNaN_of_history, ?_, ?_, ?_⟩
  · intro e' g d hcmd he
    exact hsample.isNaN_of_excitation (hop.excitation hcmd ▸ he)
  · intro e' j hcmd hj htap
    obtain ⟨rfl, rfl⟩ := hop.staticTaps hcmd
    exact hsample.isNaN_of_tap hj htap
  · intro e' g d j μ hcmd hj htap
    obtain ⟨hlength, rfl⟩ := hop.modulatedTaps hcmd μ
    exact hsample.isNaN_of_tap (by omega) htap

end Sys2Proof

/-! SUPPORT. Proofs of the family 70_reset_and_hazards: the lifecycle, the registers at reset, and a command before the
first reset (O46, O14, O15). -/

namespace Sys2Proof.Machine

open F64

/-! ## The lifecycle state after a command (70_reset_and_hazards.md R232) -/

theorem CommandResult.phase_of_error {s t : State} {c : Cause} (h : CommandResult s (.error c) t) :
    t.PHASE = s.PHASE := by
  cases h with
  | undecodable => rfl

/-- A STEP and a CLEAR write PHASE, a rejected SET_SR or GET keeps it like any other command. -/
theorem CommandResult.phase_of_ok {s t : State} {i : Instr} (h : CommandResult s (.ok i) t) :
    t.PHASE = if isStep i then .running else if i = .clear then .cleared else s.PHASE := by
  cases h with
  | sample i v hi => simp [hi]
  | _ => simp [isStep]

/-! ## The stored delay at reset (10_state.md R41) -/

section
variable {c : Config} (hc : c.valid = true) (k : Nat)
include hc

theorem resetOf_S_exact :
    isFinite (State.resetOf c k).S = true ∧ value (State.resetOf c k).S = ((c.minDelay : Int) - 1) * unit := by
  obtain ⟨hfin, hval⟩ := delayArg_exact hc ((⟨k, []⟩ : NanSeed).site 0) c.minDelayF
  rw [clampDelay_minDelayF hc, value_minDelayF hc, ← sub_one_mul] at hval
  exact resetOf_S hc k ▸ ⟨hfin, hval⟩

/-- The whole part of `MIN_DELAY - 1` is the tap offset and `H`. -/
theorem resetOf_DT_S_add : (State.resetOf c k).DT_S + c.h + 1 = c.minDelay := by
  have hs := resetOf_inv hc k
  obtain ⟨hlo, hhi⟩ := split_dt_bounds hc ⟨k, []⟩ hs.delayLow hs.delayHigh
  have hunit : (0 : Int) < unit := Int.natCast_pos.mpr unit_pos
  rw [(resetOf_S_exact hc k).2] at hlo hhi
  have hle := le_of_mul_le_mul_right hlo hunit
  have hlt := lt_of_mul_lt_mul_right hhi hunit.le
  rw [hs.DT_S_eq ⟨k, []⟩, resetOf_cfg]
  omega

end

/-! ## What a reset sets, and the refusal before the first one (70_reset_and_hazards.md R230, R233) -/

/-- A reset takes the parameters and coefficients of `resetOf`, whatever inputs are still to come. -/
theorem sameSetup_takeReset (rest : List Input) (s : State) :
    SameSetup (State.resetOf s.cfg (s.freeSeq + 1)) (takeReset rest s) :=
  ⟨⟨rfl, rfl, rfl⟩, rfl, rfl, ⟨rfl, rfl⟩, ⟨rfl, rfl, rfl, rfl⟩, ⟨rfl, rfl⟩⟩

theorem step_of_uninitialized {s : State} {t : Transaction} {rest : List Input} (hvalid : s.cfg.valid = true)
    (hphase : s.PHASE = .uninitialized) (hin : s.inbox = .command t :: rest) :
    step s = .refused .beforeFirstReset := by
  rw [step, fetch, if_pos hvalid, hin]
  simp only [if_pos hphase]

end Sys2Proof.Machine

namespace Sys2Proof

open Sys2Proof.Machine

/-- Settles O46: an idle step changes nothing, a reset configures, and a command leaves the PHASE of its result. -/
theorem lifecycleFollowsTheInputs : Obligations.LifecycleFollowsTheInputs := by
  intro s t h
  rcases step_next h with ⟨hin, rfl⟩ | ⟨f, rest, hin, rfl⟩ | ⟨tr, rest, hin, hcmd⟩ <;> rw [hin]
  · exact ⟨fun _ => rfl, nofun, nofun⟩
  · exact ⟨nofun, fun _ _ _ => rfl, nofun⟩
  · refine ⟨nofun, nofun, ?_⟩
    rintro _ _ ⟨⟩
    exact ⟨fun c hdec => (hdec ▸ hcmd).phase_of_error, fun i hdec => (hdec ▸ hcmd).phase_of_ok⟩

/-- Settles O14: S and DT_S by `resetOf_S_exact` and `resetOf_DT_S_add`, the other registers are those `resetOf` writes. -/
theorem resetFromAnyState : Obligations.ResetFromAnyState := by
  intro s f rest hvalid hin
  obtain ⟨hfin, hval⟩ := resetOf_S_exact hvalid (s.freeSeq + 1)
  exact ⟨_, step_of_inbox_reset hvalid hin, sameSetup_takeReset rest s, hfin, hval, resetOf_DT_S_add hvalid _,
    fun _ => rfl, rfl, rfl, rfl, rfl, rfl, rfl, rfl, rfl, rfl, rfl, rfl, rfl, rfl⟩

/-- Settles O15: `fetch` looks at PHASE for a command only, so the reset completes. -/
theorem commandBeforeResetIsRefused : Obligations.CommandBeforeResetIsRefused := fun _ _ hvalid hphase =>
  ⟨fun _ hin => step_of_uninitialized hvalid hphase hin, fun _ hin => ⟨_, step_of_inbox_reset hvalid hin, rfl⟩⟩

end Sys2Proof
